-- ==== Sys2Proof/Word.lean ====
section
/-!
DEFINITION. The words of the part (spec/00_scope, Conventions; R181) and the one form in which every addressed
memory is held.
-/

namespace Sys2Proof

/-- A word of a master port: 16 bits. -/
abbrev Word := BitVec 16

/-- A sample code or a hit count: 8 bits. -/
abbrev Byte := BitVec 8

/-- An addressed memory: (address, value) pairs with rising addresses, none equal to what an unlisted address reads as
(`Machine.Cells.wf`). -/
abbrev Cells (α : Type) := List (Nat × α)

end Sys2Proof
end

