-- ==== Sys2Proof/Syntax.lean ====
section
/-!
DEFINITION. The commands of the part: one constructor for each row of spec/opcode_table.json. A request row names the
port alone: its parameters are those of the request that port has staged and offers (R167, log 35).
-/

namespace Sys2Proof

/-- The two master ports (R164). -/
inductive Port
  | a
  | b
deriving DecidableEq, Repr

/-- The CHANNELS strap (00_scope, Configuration straps). -/
inductive ChannelsStrap
  | two
  | four
deriving DecidableEq, Repr

/-- The DEPTH strap. -/
inductive DepthStrap
  | tenMillion
  | twentyMillion
deriving DecidableEq, Repr

/-- The PANEL strap. -/
inductive PanelStrap
  | s
  | l
deriving DecidableEq, Repr

/-- The three straps, sampled at power-on reset. -/
structure Straps where
  channels : ChannelsStrap
  depth : DepthStrap
  panel : PanelStrap
deriving DecidableEq, Repr

/-- What a flash access does otherwise than it should: (word of the sector, what that word comes out as). An access
that works carries none (log 13). -/
abbrev FlashUpset := List (Nat × Word)

/-- The commands, in the order of the table. -/
inductive Instr
  /-- Power-on reset with the strap inputs; `written` words of a record had been programmed when the power was cut,
  and `upset` says what the cut left in the words of a sector being erased (R59, R163, log 14). -/
  | powerOnReset (straps : Straps) (written : Nat) (upset : FlashUpset)
  /-- PRST asserted (R174). -/
  | portReset (p : Port)
  /-- ABORT asserted (R173). -/
  | abort (p : Port)
  /-- The master writes a word marked START (R165). -/
  | startWord (p : Port) (w : Word)
  /-- The master writes a word marked FRAME (R166). -/
  | frameWord (p : Port) (w : Word)
  /-- The master writes a word marked DATA (R170). -/
  | dataWord (p : Port) (w : Word)
  /-- The master writes a word marked CHECK (R170). -/
  | checkWord (p : Port) (w : Word)
  /-- The master reads a word (R168, R169). -/
  | wordRead (p : Port)
  | identify (p : Port)
  | getNotices (p : Port)
  | setAttention (p : Port)
  | setupRead (p : Port)
  | setupWrite (p : Port)
  | setupExchange (p : Port)
  | defaultSetup (p : Port)
  | lock (p : Port)
  | unlock (p : Port)
  | writeKeymap (p : Port)
  | writeKnobmap (p : Port)
  | writeLedmap (p : Port)
  | dataInCompletion (p : Port)
  | beep (p : Port)
  | triggerStatus (p : Port)
  | runControl (p : Port)
  | runControlForce (p : Port)
  | hold (p : Port)
  | release (p : Port)
  | readWaveform (p : Port)
  | segmentInfo (p : Port)
  | showSegment (p : Port)
  | clearDisplay (p : Port)
  | writeOverlay (p : Port)
  | fillOverlay (p : Port)
  | writePalette (p : Port)
  | readScreen (p : Port)
  | saveSetup (p : Port)
  | recallSetup (p : Port)
  | eraseSetup (p : Port)
  | setStartup (p : Port)
  | listSetups (p : Port)
  | setClock (p : Port)
  /-- One scan: bit i of `keys` is set while key i is pressed; bits e of `encA` and `encB` are the lines of encoder e
  (R26). -/
  | scanTick (keys : BitVec 64) (encA encB : BitVec 8)
  /-- An accepted press of key `key` (R28). -/
  | keyPress (key : Nat)
  /-- An accepted release of key `key` (R28). -/
  | keyRelease (key : Nat)
  /-- A detent of encoder `enc` (R40). -/
  | detent (enc : Nat) (clockwise : Bool)
  | toneExpiry
  /-- A new PWM period of LED drive `led` begins (R44). -/
  | ledPwmPeriod (led : Nat)
  /-- An echo word from the front end (R53, R186). -/
  | echo (w : Word)
  | echoTimeout
  /-- The settle timer of channel `ch`, 1..4, expires (R57). -/
  | settleExpiry (ch : Nat)
  /-- A kept sample: the codes of channels 1..4 and the raw EXT level, high or low (R60; log 37). -/
  | keptSample (c1 c2 c3 c4 : Byte) (ext : Bool)
  | holdoffExpiry
  | autoTimerExpiry
  | trigOutPulseEnd
  | renderColumnStep
  | frameExpiry
  | buildEnd
  /-- A sector read of the power-on scan ends (R151). -/
  | scanSectorReadEnd (upset : FlashUpset)
  | firstWordMarkEnd
  /-- The sector erase completes; `upset` are words the erase did not leave 0xFFFF (R154). -/
  | eraseEnd (upset : FlashUpset)
  /-- The CRC word has been written; `upset` are words that were programmed otherwise (R154). -/
  | programEnd (upset : FlashUpset)
  /-- The read-back ends; `upset` are words that read otherwise (R154, R157, R158). -/
  | verifyEnd (upset : FlashUpset)
  /-- The recall's sector read ends; `upset` are words that read otherwise (R156). -/
  | recallReadEnd (upset : FlashUpset)
  | clockRise
  | probeCompEdge
  /-- PRST deasserted (R174). -/
  | prstRelease (p : Port)
  | sampleMemoryAccess
  | frameBufferAccess
deriving DecidableEq, Repr

end Sys2Proof
end

