-- ==== Sys2Proof/Decode.lean ====
section
/-!
DEFINITION. The command a word of spec/opcode_table.json spells. The table gives no row of this part any bits, so no
word spells a command. (The words that do have layouts, R181 to R187, are read in Machine/Operands.lean,
Machine/FrontEnd.lean and Machine/Store.lean.)
-/

namespace Sys2Proof

/-- No row of the table has bits: every word spells none. -/
def decodeTableWord (_nbits _w : Nat) : Option Instr := none

end Sys2Proof
end

