-- ==== Sys2Proof/Machine/Cells.lean ====
section
/-!
DEFINITION. Reading and writing an addressed memory in its one canonical form: addresses strictly rising, no entry
equal to what an unlisted address reads as. Equal memories are then equal lists.
-/

namespace Sys2Proof.Machine

variable {α : Type}

/-- The value at an address; `d` is what an unlisted address reads as. -/
def Cells.get (d : α) : Cells α → Nat → α
  | [], _ => d
  | (k, v) :: m, a => if k = a then v else Cells.get d m a

/-- Write one value, keeping the canonical form. -/
def Cells.put [DecidableEq α] (d : α) : Cells α → Nat → α → Cells α
  | [], a, v => if v = d then [] else [(a, v)]
  | (k, w) :: m, a, v =>
    if a < k then (if v = d then (k, w) :: m else (a, v) :: (k, w) :: m)
    else if a = k then (if v = d then m else (a, v) :: m)
    else (k, w) :: Cells.put d m a v

/-- Write a run of values from an address on. -/
def Cells.putRun [DecidableEq α] (d : α) : Cells α → Nat → List α → Cells α
  | m, _, [] => m
  | m, a, v :: vs => Cells.putRun d (Cells.put d m a v) (a + 1) vs

/-- Write the same value at each address of a list. -/
def Cells.fill [DecidableEq α] (d : α) (m : Cells α) (as : List Nat) (v : α) : Cells α :=
  as.foldl (fun m a => Cells.put d m a v) m

/-- Apply `f` to every listed cell (`f d` is to be `d`). -/
def Cells.mapVals [DecidableEq α] (d : α) (f : α → α) (m : Cells α) : Cells α :=
  m.filterMap fun c => if f c.2 = d then none else some (c.1, f c.2)

/-- The canonical form holds. -/
def Cells.wf [DecidableEq α] (d : α) : Cells α → Bool
  | [] => true
  | (k, v) :: m => decide (v ≠ d) && m.all (fun c => decide (k < c.1)) && Cells.wf d m

end Sys2Proof.Machine
end

