-- ==== Sys2Proof/Config.lean ====
section
/-!
DEFINITION. The fixed figures of the part, and what the manual does not give: the glyph bitmaps of the readout
character set, and the word for a burst number past 65,535.
-/

namespace Sys2Proof.Config

/-- Whether the glyph of a character has the pixel (column 0..7, row 0..15) of its cell. R136: the bitmaps are those
of the NG3140 data sheet, which this manual does not hold (log 9). -/
opaque glyph : Char → Nat → Nat → Bool

/-- The result word of CRC_ERROR for a first failed burst whose number one word cannot hold: the manual gives it one word
and bounds no request's bursts (R168, R170; log 42). -/
opaque wideBurst : Nat → BitVec 16

/-- Setup slots in flash (00_scope, Configuration straps). -/
def setupSlots : Nat := 16
/-- Largest burst in words (R169). -/
def burstWords : Nat := 512
/-- Depth of each port's notice queue (R175). -/
def queueDepth : Nat := 64
/-- Holds of one port, at most (R102). -/
def maxHolds : Nat := 4
/-- Depth of the render queue (R108). -/
def renderDepth : Nat := 8
/-- Segment records, and the most slots there are (R85, R86). -/
def maxSegments : Nat := 2000
/-- Entries of the snapshot table (R88). -/
def snapEntries : Nat := 12
/-- Samples of one channel's memory in the key of a sample cell: the larger DEPTH (R85). -/
def sampleSpan : Nat := 20000000
/-- Screen width and height (R131). -/
def screenW : Nat := 800
def screenH : Nat := 480
/-- Raster columns and rows (R116). -/
def rasterW : Nat := 500
def rasterH : Nat := 400
/-- Words of one sector of the flash (R148). -/
def sectorWords : Nat := 2048
/-- The width counter's largest count (R68). -/
def widthMax : Nat := 16777215
/-- Base ticks of the durations the manual gives (00_scope, Conventions; R26, R52, R57, R79, R128, R160). -/
def msTicks : Nat := 1000000
def echoTicks : Nat := 200000
def settleRelayTicks : Nat := 5000000
def settleTicks : Nat := 100000
def pulseTicks : Nat := 100
def frameTicks : Nat := 16667000
def secondTicks : Nat := 1000000000
/-- Frequency of a click in Hz (R45). -/
def clickHz : Nat := 4000
/-- Words of one access to a shared memory (R171, R172). -/
def accessWords : Nat := 16

end Sys2Proof.Config
end

