-- ==== Sys2Proof/Machine/Types.lean ====
section
/-!
DEFINITION. The parts of the machine's state, block by block: every register, flag, counter, table and queue the manual
gives the part. Plain data throughout.
-/

namespace Sys2Proof.Machine

/-! ## Live setup (01) -/

/-- Source of a change (R5), with the codes 0..4 of R183 in this order. -/
inductive Source
  | portA
  | portB
  | panel
  | recall
  | dflt
deriving DecidableEq, Repr

/-- Field classes (00_scope). -/
inductive FieldClass
  | acq
  | timing
  | view
  | panel
deriving DecidableEq, Repr

/-- Kind of a field with its fixed limits or its code set (R2). -/
inductive FieldKind
  | enum (codes : List Int)
  | int (lo hi : Int)
deriving DecidableEq, Repr

/-- The constant parts of a field record (R1). The wrap flag is TRIG_SOURCE's alone, the saved flag all but PANEL's. -/
structure FieldSpec where
  cls : FieldClass
  kind : FieldKind
  dflt : Int
deriving DecidableEq, Repr

/-- The changing parts of a field record (R1). -/
structure FieldRec where
  id : Nat
  value : Int
  src : Source
  gen : BitVec 32
deriving DecidableEq, Repr

/-- The setup table: records, generation (R11), lock (R22), changed-while-stopped set (R14). -/
structure Setup where
  recs : List FieldRec
  gen : BitVec 32
  holder : Option Port
  localDisabled : Bool
  changed : List Nat
deriving DecidableEq, Repr

/-- Who a change, a run-control request or a store request comes from (R5). -/
inductive Orig
  | port (p : Port)
  | panel
deriving DecidableEq, Repr

/-! ## Run modes (05), used by several blocks -/

/-- Run modes with the codes 0..3 of the flags word (R183) in this order. -/
inductive RunMode
  | stop
  | run
  | single
  | sequence
deriving DecidableEq, Repr

/-- Acquisition states (R84). -/
inductive AcqState
  | stopped
  | settling
  | waitSegment
  | pretrig
  | ready
  | posttrig
deriving DecidableEq, Repr

/-! ## Front panel (02) -/

/-- Debounce record of a key (R27). -/
structure KeyRec where
  pressed : Bool
  count : Nat
deriving DecidableEq, Repr

/-- Decoder record of an encoder (R38): reference state (A, B), partial count, ticks since the last detent, last
direction (clockwise), fast run. -/
structure EncRec where
  ref : Option (Bool × Bool)
  part : Int
  ticks : Nat
  lastCw : Bool
  fast : Nat
deriving DecidableEq, Repr

/-- A field named by id or as field q of the front channel (R25). -/
inductive FieldRef
  | id (n : Nat)
  | front (q : Nat)
deriving DecidableEq, Repr

/-- The thirteen key actions (02 quick reference). -/
inductive KeyAction
  | none
  | report
  | runStop
  | single
  | sequence
  | force
  | clear
  | dflt
  | recall (slot : Nat)
  | save (slot : Nat)
  | channel (n : Nat)
  | setField (f : FieldRef) (v : Int)
  | localKey
deriving DecidableEq, Repr

/-- Knob targets (R39). -/
inductive KnobTarget
  | report
  | fixed (id : Nat)
  | front (q : Nat)
deriving DecidableEq, Repr

/-- A knob map entry (R39). -/
structure KnobEntry where
  target : KnobTarget
  step : Int
  accel : Int
deriving DecidableEq, Repr

/-- LED sources (02 quick reference). -/
inductive LedSource
  | off
  | on
  | fieldEq (id : Nat) (v : Int)
  | frontIs (n : Nat)
  | runMode (m : RunMode)
  | acqReady
  | locked
deriving DecidableEq, Repr

/-- An LED map entry (R43). -/
structure LedEntry where
  source : LedSource
  blink : Bool
deriving DecidableEq, Repr

/-- The beeper's tone state (R45): while it sounds, its frequency in Hz and the remaining duration in base ticks. -/
inductive Tone
  | silent
  | click (freq left : Nat)
  | error (freq left : Nat)
deriving DecidableEq, Repr

/-- An event a scan tick has yielded (R26). -/
inductive PanelEvent
  | press (key : Nat)
  | release (key : Nat)
  | detent (enc : Nat) (clockwise : Bool)
deriving DecidableEq, Repr

/-- The panel scanner. -/
structure Panel where
  scanTimer : Nat
  keys : List KeyRec
  encs : List EncRec
  keymap : List KeyAction
  knobmap : List KnobEntry
  ledmap : List LedEntry
  leds : List Nat
  blinkOn : Bool
  blinkCount : Nat
  tone : Tone
  due : List PanelEvent
deriving DecidableEq, Repr

/-! ## Front end (03) -/

/-- The four settings of a channel, with the codes of 10.7: attenuator ÷100 or ×1, gain code 0..8, coupling 0 DC, 1 AC,
2 GND, bandwidth LIMIT or FULL (R50). -/
structure Settings where
  div100 : Bool
  gain : BitVec 4
  coupling : BitVec 2
  limit : Bool
deriving DecidableEq, Repr

/-- Update states of a channel (R49). -/
inductive UpdState
  | idle
  | waiting
  | awaitEcho
deriving DecidableEq, Repr

/-- Channel record (R49). `settle` is the settle timer's base ticks left, none while it is stopped. -/
structure ChanRec where
  upd : UpdState
  attempt : Nat
  sent : Settings
  confirmed : Option Settings
  pendingLatest : Bool
  settle : Option Nat
  relayMoved : Bool
  fault : Bool
deriving DecidableEq, Repr

/-- The frame in flight: its channel 1..4 and its word (10.7). -/
structure Flight where
  chan : Nat
  word : Word
deriving DecidableEq, Repr

/-- The front-end controller. The link is BUSY while a frame is in flight (R52). -/
structure FrontEnd where
  chans : List ChanRec
  link : Option Flight
  tag : BitVec 4
  lastServed : Nat
  echoTimer : Option Nat
deriving DecidableEq, Repr

/-! ## Trigger (04) -/

/-- Width counter states (R68), with the codes 0..2 of R185 in this order. -/
inductive WidthState
  | idle
  | positive
  | negative
deriving DecidableEq, Repr

/-- EXT filter's accepted level (R66), with the codes 0..2 of R185 in this order. -/
inductive ExtLevel
  | none
  | low
  | high
deriving DecidableEq, Repr

/-- The trigger unit (R62). `holdoff` is kept in base ticks, ten to a unit (log 30). -/
structure Trig where
  lowSeen : Bool
  highSeen : Bool
  wstate : WidthState
  wcount : Nat
  saturated : Bool
  capA : Nat
  capB : Nat
  ext : ExtLevel
  extCount : Nat
  holdoff : Nat
  autoTimer : Option Nat
  forced : Bool
  pulse : Option Nat
  probe : Bool
deriving DecidableEq, Repr

/-- Kinds of trigger (04 quick reference). -/
inductive TrigKind
  | real
  | auto
  | force
deriving DecidableEq, Repr

/-! ## Acquisition and the segment store (05) -/

/-- States of a segment (R86), with the codes 0..2 of R185 in this order. -/
inductive SegState
  | free
  | filling
  | complete
deriving DecidableEq, Repr

/-- A segment record (R86). Bit n - 1 of `ovr` and `fault` is channel n's flag. -/
structure Seg where
  state : SegState
  snap : Option Nat
  seq : BitVec 32
  time : BitVec 64
  p : Nat
  auto : Bool
  ovr : BitVec 4
  fault : BitVec 4
  holdsA : Nat
  holdsB : Nat
  pending : Bool
  current : Bool
  wrap : Nat
deriving DecidableEq, Repr

/-- A snapshot entry (R88): reference count, generation when filled, the (id, value) pairs of the ACQ fields. -/
structure Snap where
  refs : Nat
  gen : BitVec 32
  vals : List (Nat × Int)
deriving DecidableEq, Repr

/-- The acquisition controller, with sample memory. -/
structure Acq where
  mode : RunMode
  state : AcqState
  segs : Cells Seg
  snaps : List Snap
  newest : Option Nat
  nextSlot : Nat
  seqList : List Nat
  seqCount : Nat
  counter : BitVec 32
  fillCount : Nat
  postCount : Nat
  decim : Option Nat
  samples : Cells Byte
deriving DecidableEq, Repr

/-! ## Renderer (06) -/

/-- A channel of a render with its mapping (R113). -/
structure ChanMap where
  ch : Nat
  pos : Int
  inv : Bool
deriving DecidableEq, Repr

/-- The render record (R112): segment, window, channels (`hand` indexes the one in hand), next column, previous row.
`read` is how many of the channel's samples have been read from sample memory (R126). -/
structure Render where
  seg : Nat
  start : Nat
  len : Nat
  bin : Nat
  chans : List ChanMap
  hand : Nat
  col : Nat
  prevRow : Option Nat
  read : Nat
deriving DecidableEq, Repr

/-- The renderer (R107). It is RENDERING while `render` is present. -/
structure Renderer where
  queue : List Nat
  render : Option Render
  rasters : Cells Byte
  decayDue : Bool
deriving DecidableEq, Repr

/-! ## Compositor (07) -/

/-- Compositor states (R127). -/
inductive CompState
  | waiting
  | composing
  | flipHeld
deriving DecidableEq, Repr

/-- An overlay plane of indices 0..15 and its palette of 16 colour words (R141). -/
structure Overlay where
  plane : Cells (BitVec 4)
  palette : List Word
deriving DecidableEq, Repr

/-- The inputs a build takes at its start (R129). `current` holds the current segment's OVERRANGE and FE_FAULT flags. -/
structure BuildInputs where
  channels : Nat
  vals : List (Nat × Int)
  rasters : Cells Byte
  changed : List Nat
  holder : Option Port
  mode : RunMode
  current : Option (BitVec 4 × BitVec 4)
  ovA : Overlay
  ovB : Overlay
deriving DecidableEq, Repr

/-- The buffer the LCD refresh in progress reads, by its role now (R128, R130). -/
inductive Refresh
  | none
  | front
  | back
deriving DecidableEq, Repr

/-- The compositor (R127). -/
structure Compositor where
  state : CompState
  front : Cells Word
  back : Cells Word
  build : Option BuildInputs
  built : Nat
  reads : Nat
  frameTimer : Nat
  refresh : Refresh
  ovA : Overlay
  ovB : Overlay
deriving DecidableEq, Repr

/-! ## Setup store (08) -/

/-- Store states (R146). -/
inductive StoreState
  | scanning
  | idle
  | erasing
  | programming
  | verifying
  | reading
deriving DecidableEq, Repr

/-- Kinds of store operation (R147). -/
inductive OpKind
  | scan
  | save
  | recall
  | erase
  | startup
deriving DecidableEq, Repr

/-- Originators of store operations (R147; the scan's: log 24). -/
inductive StoreOrig
  | port (p : Port)
  | panel
  | start
deriving DecidableEq, Repr

/-- Operation record (R147). The setup slot is 1..16, 0..16 for a startup write, and none for the scan. -/
structure StoreOp where
  kind : OpKind
  slot : Option Nat
  orig : StoreOrig
  key : Bool
deriving DecidableEq, Repr

/-- Directory states (R150), with the codes 0..2 of R185 in this order. -/
inductive DirState
  | empty
  | valid
  | corrupt
deriving DecidableEq, Repr

/-- A directory entry (R150). The name is 8 words of two characters; source, channel count and field count are the
record's words. -/
structure DirEntry where
  state : DirState
  name : List Word
  time : BitVec 32
  source : Word
  channels : Word
  fields : Word
deriving DecidableEq, Repr

/-- The setup store with its clock and the flash. -/
structure Store where
  state : StoreState
  op : Option StoreOp
  scanAt : Nat
  marked : Bool
  dir : List DirEntry
  startup : Nat
  buffer : List Word
  clock : BitVec 32
  clockNext : Nat
  flash : Cells Word
deriving DecidableEq, Repr

/-! ## Master ports (09) -/

/-- Completion codes with the numbers of table 10.5 in this order. -/
inductive Code
  | ok
  | clamped
  | busy
  | badFrame
  | badRequest
  | badField
  | badValue
  | stale
  | locked
  | notStopped
  | noSegment
  | holdLimit
  | storeBusy
  | slotEmpty
  | slotCorrupt
  | writeFailed
  | crcError
  | aborted
deriving DecidableEq, Repr

/-- Notices with their contents (09 quick reference, R183). -/
inductive Notice
  | setupChanged (id : Nat) (value : Int) (gen : BitVec 32) (src : Source)
  | panelKey (key : Nat) (press : Bool)
  | panelKnob (enc : Nat) (count : Int)
  | runState (m : RunMode)
  | segmentDone (index : Nat) (seq : BitVec 32) (auto : Bool) (merged : Nat)
  | sequenceDone (count : Nat)
  | storeDone (op : OpKind) (slot : Nat) (code : Code)
  | lockChanged (holder : Option Port)
  | feFault (ch : Nat)
deriving DecidableEq, Repr

/-- Link states (R164). -/
inductive LinkState
  | idle
  | receiving
  | executing
  | dataIn
  | responding
  | dataOut
deriving DecidableEq, Repr

/-- Pending acknowledge (R165). -/
inductive Ack
  | none
  | accepted
  | busy
deriving DecidableEq, Repr

/-- Staged request (R164): kind code and parameter words; `dataDone` once its DATA_IN phase has ended (R170). -/
structure Staged where
  kind : BitVec 8
  params : List Word
  dataDone : Bool
deriving DecidableEq, Repr

/-- A response frame and the position reached in reading it (R164). -/
structure Response where
  words : List Word
  pos : Nat
deriving DecidableEq, Repr

/-- The data of a DATA_OUT request in flight (R169). -/
inductive DataOut
  | waveform (seg ch start count : Nat)
  | screen
  | list (words : List Word)
deriving DecidableEq, Repr

/-- An entry of the holds list (R164). -/
structure HoldEntry where
  seg : Nat
  implicit : Bool
deriving DecidableEq, Repr

/-- A master port (R164). `waiting` is set while a word read waits for an access to a shared memory (R165, R171, R172). -/
structure PortState where
  link : LinkState
  header : Word
  rx : List Word
  staged : Option Staged
  ack : Ack
  discard : Nat
  response : Option Response
  out : Option DataOut
  burst : Nat
  word : Nat
  crc : Word
  fetched : Nat
  waiting : Bool
  inBurst : List Word
  counted : Nat
  failed : Option Nat
  table : Option (List Word)
  queue : List Notice
  lost : Bool
  attnMask : BitVec 2
  noticeMask : BitVec 8
  holds : List HoldEntry
  prst : Bool
  readWord : Word
deriving DecidableEq, Repr

/-- The claimants that share a memory's turns (R171, R172): the engine is the renderer at sample memory and the
compositor at the frame buffers. -/
inductive Claimant
  | engine
  | portA
  | portB
deriving DecidableEq, Repr

end Sys2Proof.Machine
end

