-- ==== Sys2Proof/Machine/Fields.lean ====
section
/-!
DEFINITION. The field table (01 R1 to R4), the symbols derived from field values (00_scope, Symbols), and the
validation of a change (01 R6 to R9).
-/

namespace Sys2Proof.Machine

/-! ## Straps (00_scope, Configuration straps; R180) -/

/-- Number of channels present. -/
def channelCount (st : Straps) : Nat :=
  match st.channels with
  | .two => 2
  | .four => 4

/-- Samples for each channel of sample memory. -/
def depthOf (st : Straps) : Nat :=
  match st.depth with
  | .tenMillion => 10000000
  | .twentyMillion => 20000000

/-- Keys the panel variant scans. -/
def keysScanned (st : Straps) : Nat :=
  match st.panel with
  | .s => 48
  | .l => 64

/-- Encoders the panel variant scans. -/
def encodersScanned (st : Straps) : Nat :=
  match st.panel with
  | .s => 6
  | .l => 8

/-! ## The field table -/

def fidRecordLength : Nat := 33
def fidTrigPosition : Nat := 34
def fidSegments : Nat := 35
def fidWidthLow : Nat := 46
def fidWidthHigh : Nat := 47
def fidTrigMode : Nat := 48
def fidViewLength : Nat := 56
def fidViewStart : Nat := 57
def fidFront : Nat := 58
def fidAuxSource : Nat := 67

/-- Id of field q of channel n (R3). -/
def chanField (n q : Nat) : Nat := 8 * (n - 1) + q

/-- Field q of channel n (table of R3). -/
def chanSpec (n q : Nat) : Option FieldSpec :=
  match q with
  | 0 => some ⟨.acq, .enum [0, 1], if n = 1 then 1 else 0⟩
  | 1 => some ⟨.acq, .int 0 12, 8⟩
  | 2 => some ⟨.view, .int (-200) 200, 0⟩
  | 3 => some ⟨.acq, .enum [0, 1, 2], 0⟩
  | 4 => some ⟨.acq, .enum [0, 1], 0⟩
  | 5 => some ⟨.view, .enum [0, 1, 2], 0⟩
  | 6 => some ⟨.view, .enum [0, 1], 0⟩
  | _ => none

/-- Codes of TRIG_SOURCE (R2). -/
def trigSourceCodes (st : Straps) : List Int :=
  match st.channels with
  | .two => [0, 1, 4]
  | .four => [0, 1, 2, 3, 4]

/-- Largest RECORD_LENGTH (R4). -/
def maxRecordLength (st : Straps) : Int :=
  match st.depth with
  | .tenMillion => 13
  | .twentyMillion => 14

/-- The fields that belong to no channel (table of R4). An INT field's limits are the outer bounds of step 3 (R7). -/
def fixedSpec (st : Straps) (id : Nat) : Option FieldSpec :=
  match id with
  | 32 => some ⟨.acq, .int 0 18, 3⟩
  | 33 => some ⟨.acq, .int 0 (maxRecordLength st), 2⟩
  | 34 => some ⟨.acq, .int 0 100, 50⟩
  | 35 => some ⟨.acq, .int 1 2000, 1⟩
  | 40 => some ⟨.acq, .enum [0, 1], 0⟩
  | 41 => some ⟨.acq, .enum (trigSourceCodes st), 0⟩
  | 42 => some ⟨.acq, .enum [0, 1, 2], 0⟩
  | 43 => some ⟨.acq, .int 0 255, 128⟩
  | 44 => some ⟨.acq, .int 1 32, 4⟩
  | 45 => some ⟨.acq, .enum [0, 1, 2, 3], 0⟩
  | 46 => some ⟨.acq, .int 1 16777215, 100⟩
  | 47 => some ⟨.acq, .int 1 16777215, 1000⟩
  | 48 => some ⟨.timing, .enum [0, 1], 0⟩
  | 49 => some ⟨.timing, .int 0 1000000000, 0⟩
  | 50 => some ⟨.timing, .int 10 10000, 100⟩
  | 51 => some ⟨.acq, .enum [0, 1], 0⟩
  | 56 => some ⟨.view, .int 0 14, 2⟩
  | 57 => some ⟨.view, .int 0 19999500, 0⟩
  | 58 => some ⟨.view, .int 1 (channelCount st), 1⟩
  | 59 => some ⟨.view, .enum [0, 1, 2], 0⟩
  | 60 => some ⟨.acq, .int 1 8, 3⟩
  | 61 => some ⟨.view, .int 1 16, 8⟩
  | 62 => some ⟨.view, .enum [0, 1, 2], 0⟩
  | 63 => some ⟨.view, .enum [0, 1], 1⟩
  | 64 => some ⟨.panel, .int 0 15, 12⟩
  | 65 => some ⟨.panel, .enum [0, 1], 1⟩
  | 66 => some ⟨.panel, .enum [0, 1], 1⟩
  | 67 => some ⟨.panel, .enum [0, 1, 2], 1⟩
  | _ => none

/-- The field an id names on the part, if any (R1, R3, R4). -/
def fieldSpec (st : Straps) (id : Nat) : Option FieldSpec :=
  if id < 32 then
    (if id / 8 < channelCount st then chanSpec (id / 8 + 1) (id % 8) else none)
  else fixedSpec st id

/-- The ids 0..127 that name a present field, ascending. -/
def presentIds (st : Straps) : List Nat := (List.range 128).filter fun i => (fieldSpec st i).isSome

/-- Class of a field; an id that names none counts as no class. -/
def classOf (st : Straps) (id : Nat) : Option FieldClass := (fieldSpec st id).map (·.cls)

/-- Default of a field. -/
def dfltOf (st : Straps) (id : Nat) : Int := ((fieldSpec st id).map (·.dflt)).getD 0

/-- Saved flag (R1): every field that is not PANEL. -/
def isSaved (st : Straps) (id : Nat) : Bool :=
  match classOf st id with
  | some .panel => false
  | some _ => true
  | none => false

/-- The saved fields present on the part, ascending (00_scope: 52 or 38). -/
def savedIds (st : Straps) : List Nat := (presentIds st).filter (isSaved st)

/-- The ACQ fields present on the part, ascending (00_scope: 30 or 22). -/
def acqIds (st : Straps) : List Nat :=
  (presentIds st).filter fun i => decide (classOf st i = some FieldClass.acq)

/-! ## Symbols -/

/-- Member i of the sequence 1, 2, 5, 10, 20, 50, … -/
def seq125 (i : Nat) : Nat := 10 ^ (i / 3) * (if i % 3 = 0 then 1 else if i % 3 = 1 then 2 else 5)

/-- Samples selected by RECORD_LENGTH or VIEW_LENGTH: 500, 1,000, 2,000 … (R4). -/
def lengthOf (i : Int) : Nat := 100 * seq125 (i.toNat + 2)

/-- Sample interval in ns selected by SAMPLE_INTERVAL (R4): the decimation factor k. -/
def intervalOf (i : Int) : Nat := seq125 i.toNat

/-- Millivolts a division selected by CHn_SCALE (R3). -/
def scaleMilliVolts (i : Int) : Nat := seq125 i.toNat

/-- Slot count K for a record length in samples (00_scope, Symbols). -/
def slotCount (st : Straps) (n : Nat) : Nat := min Config.maxSegments (depthOf st / n)

/-- Pretrigger count P for N and TRIG_POSITION. -/
def pretrigOf (n : Nat) (pos : Int) : Nat := n * pos.toNat / 100

/-! ## Validation (R6 to R9) -/

/-- A field value in a value map replaced. -/
def setVal (f : Nat → Int) (id : Nat) (v : Int) : Nat → Int := fun i => if i = id then v else f i

/-- Bring a value within limits. -/
def clampInt (lo hi v : Int) : Int := if v < lo then lo else if hi < v then hi else v

/-- Step 2 of R6: the value is no code of an ENUM field. -/
def outsideSet (st : Straps) (id : Nat) (v : Int) : Bool :=
  match fieldSpec st id with
  | some ⟨_, .enum codes, _⟩ => !codes.contains v
  | _ => false

/-- Step 3 of R7: fixed limits and outer bounds. -/
def clampFixed (st : Straps) (id : Nat) (v : Int) : Int :=
  match fieldSpec st id with
  | some ⟨_, .int lo hi, _⟩ => clampInt lo hi v
  | _ => v

/-- The channels whose ENABLE is ON under a value map, ascending. -/
def enabledUnder (st : Straps) (f : Nat → Int) : List Nat :=
  ((List.range (channelCount st)).map (· + 1)).filter fun n => decide (f (chanField n 0) = 1)

/-- Step 4.1: VIEW_LENGTH at most RECORD_LENGTH. -/
def limitViewLength (f : Nat → Int) : Nat → Int :=
  setVal f fidViewLength (min (f fidViewLength) (f fidRecordLength))

/-- Step 4.2: VIEW_START at most N - V. -/
def limitViewStart (f : Nat → Int) : Nat → Int :=
  setVal f fidViewStart
    (min (f fidViewStart) ((lengthOf (f fidRecordLength) : Int) - (lengthOf (f fidViewLength) : Int)))

/-- Step 4.3: SEGMENTS at most K. -/
def limitSegments (st : Straps) (f : Nat → Int) : Nat → Int :=
  setVal f fidSegments (min (f fidSegments) (slotCount st (lengthOf (f fidRecordLength)) : Int))

/-- Step 4.4: FRONT_CHANNEL names an enabled channel where there is one. -/
def limitFront (st : Straps) (f : Nat → Int) : Nat → Int :=
  if f (chanField (f fidFront).toNat 0) = 1 then f
  else
    match enabledUnder st f with
    | [] => f
    | n :: _ => setVal f fidFront n

/-- Step 4 of R7: the dependent limits, in their order. -/
def limitDependents (st : Straps) (f : Nat → Int) : Nat → Int :=
  limitFront st (limitSegments st (limitViewStart (limitViewLength f)))

/-- The values the change would leave after step 3. -/
def afterFixed (st : Straps) (cur : Nat → Int) (pairs : List (Nat × Int)) : Nat → Int :=
  pairs.foldl (fun f p => setVal f p.1 (clampFixed st p.1 p.2)) cur

/-- The values the change would leave after step 4. -/
def afterDependents (st : Straps) (cur : Nat → Int) (pairs : List (Nat × Int)) : Nat → Int :=
  limitDependents st (afterFixed st cur pairs)

/-- What validation answers: refused with a code and the id of the reported pair, or the values the change leaves and
whether a named value was clamped. -/
abbrev Validated := Except (Code × Nat) ((Nat → Int) × Bool)

/-- The change names a field. -/
def names (pairs : List (Nat × Int)) (id : Nat) : Bool := pairs.any fun p => p.1 == id

/-- Step 5 (R8): the width pair. `f` are the values after step 4. -/
def orderWidths (pairs : List (Nat × Int)) (f : Nat → Int) (clamped : Bool) : Validated :=
  if f fidWidthHigh < f fidWidthLow then
    if names pairs fidWidthLow && names pairs fidWidthHigh then .error (.badValue, fidWidthHigh)
    else if names pairs fidWidthLow then .ok (setVal f fidWidthHigh (f fidWidthLow), clamped)
    else .ok (setVal f fidWidthLow (f fidWidthHigh), clamped)
  else .ok (f, clamped)

/-- Steps 1 to 5 of a change that is not a recall (R6 to R8), against the current values. -/
def validate (st : Straps) (cur : Nat → Int) (pairs : List (Nat × Int)) : Validated :=
  match pairs.find? (fun p => (fieldSpec st p.1).isNone) with
  | some p => .error (.badField, p.1)
  | none =>
    match pairs.find? (fun p => outsideSet st p.1 p.2) with
    | some p => .error (.badValue, p.1)
    | none =>
      orderWidths pairs (afterDependents st cur pairs)
        (pairs.any fun p => decide (afterDependents st cur pairs p.1 ≠ p.2))

/-- The pairs of a slot that a recall takes: those that name a present field that is not PANEL (R9). -/
def recallPairs (st : Straps) (pairs : List (Nat × Int)) : List (Nat × Int) := pairs.filter fun p => isSaved st p.1

/-- The value a recall offers a saved field: the slot's, the default where the slot's is no code of the set, and the
default where no pair names the field (R9). -/
def recallValue (st : Straps) (pairs : List (Nat × Int)) (id : Nat) : Int :=
  match pairs.find? (fun p => p.1 == id) with
  | some p => if outsideSet st id p.2 then dfltOf st id else p.2
  | none => dfltOf st id

/-- A recall's values after step 4. -/
def recallDependents (st : Straps) (cur : Nat → Int) (pairs : List (Nat × Int)) : Nat → Int :=
  afterDependents st cur ((savedIds st).map fun i => (i, recallValue st (recallPairs st pairs) i))

/-- The change of a recall (R9): never refused. -/
def recallChange (st : Straps) (cur : Nat → Int) (pairs : List (Nat × Int)) : (Nat → Int) × Bool :=
  let f := recallDependents st cur pairs
  if f fidWidthHigh < f fidWidthLow then (setVal f fidWidthHigh (f fidWidthLow), true)
  else (f, (recallPairs st pairs).any fun p => decide (f p.1 ≠ p.2))

end Sys2Proof.Machine
end

