-- ==== Sys2Proof/Machine/Initial.lean ====
section
/-!
DEFINITION. What every block holds after a power-on reset, each value with the rule that gives it, or with the log entry
where no rule does; and what a port reset gives back.
-/

namespace Sys2Proof.Machine

/-- R1, R11, R14, R22. -/
def Setup.initial (st : Straps) : Setup where
  recs := (presentIds st).map fun i => ⟨i, dfltOf st i, .dflt, 1⟩
  gen := 1
  holder := none
  localDisabled := false
  changed := []

/-- R27. -/
def KeyRec.initial : KeyRec := ⟨false, 0⟩

/-- R38: no reference state, until the first scan sets it. -/
def EncRec.initial : EncRec := ⟨none, 0, 41, true, 0⟩

/-- The default key map (R37). -/
def defaultKeymap : List KeyAction :=
  [.runStop, .single, .force, .dflt, .channel 1, .channel 2, .channel 3, .channel 4, .localKey, .clear]
    ++ List.replicate 54 .report

/-- The default knob map (R39). -/
def defaultKnobmap : List KnobEntry :=
  [⟨.front 1, -1, -1⟩, ⟨.front 2, 2, 2⟩, ⟨.fixed 32, -1, -1⟩, ⟨.fixed 57, 10, 500⟩, ⟨.fixed 43, 1, 8⟩]
    ++ List.replicate 3 ⟨.report, 0, 0⟩

/-- The default LED map (R43). -/
def defaultLedmap : List LedEntry :=
  [⟨.runMode .run, false⟩, ⟨.runMode .stop, false⟩, ⟨.runMode .single, false⟩, ⟨.runMode .sequence, false⟩,
   ⟨.fieldEq 0 1, false⟩, ⟨.fieldEq 8 1, false⟩, ⟨.fieldEq 16 1, false⟩, ⟨.fieldEq 24 1, false⟩,
   ⟨.locked, true⟩, ⟨.acqReady, false⟩,
   ⟨.frontIs 1, false⟩, ⟨.frontIs 2, false⟩, ⟨.frontIs 3, false⟩, ⟨.frontIs 4, false⟩,
   ⟨.fieldEq 48 0, false⟩, ⟨.fieldEq 40 1, false⟩]
    ++ List.replicate 16 ⟨.off, false⟩

/-- R26, R27, R37 to R39, R43 to R45. The LED drives are the model's own choice (log 8). -/
def Panel.initial : Panel where
  scanTimer := Config.msTicks
  keys := List.replicate 64 KeyRec.initial
  encs := List.replicate 8 EncRec.initial
  keymap := defaultKeymap
  knobmap := defaultKnobmap
  ledmap := defaultLedmap
  leds := List.replicate 32 0
  blinkOn := true
  blinkCount := 0
  tone := .silent
  due := []

/-- Attenuator and gain code of a CHn_SCALE index (R50). -/
def scaleSettings (i : Int) : Bool × BitVec 4 :=
  if i ≤ 8 then (false, BitVec.ofInt 4 i) else (true, BitVec.ofInt 4 (i - 6))

/-- Settings derived from CHn_SCALE, CHn_COUPLING and CHn_BWLIMIT (R50). -/
def settingsOf (scale coupling bw : Int) : Settings :=
  ⟨(scaleSettings scale).1, (scaleSettings scale).2, BitVec.ofInt 2 coupling, decide (bw = 1)⟩

/-- R49: sent settings are those derived from the default fields. -/
def ChanRec.initial : ChanRec where
  upd := .waiting
  attempt := 1
  sent := settingsOf 8 0 0
  confirmed := none
  pendingLatest := false
  settle := none
  relayMoved := false
  fault := false

/-- R49, R52. -/
def FrontEnd.initial (st : Straps) : FrontEnd where
  chans := List.replicate (channelCount st) ChanRec.initial
  link := none
  tag := 0
  lastServed := channelCount st
  echoTimer := none

/-- R62, R74 to R80. The probe square wave is high at base tick 0 (R79, R80). -/
def Trig.initial : Trig where
  lowSeen := false
  highSeen := false
  wstate := .idle
  wcount := 0
  saturated := false
  capA := 0
  capB := 0
  ext := .none
  extCount := 0
  holdoff := 0
  autoTimer := none
  forced := false
  pulse := none
  probe := true

/-- A FREE segment record with every part clear (R86): also what an unlisted record is. -/
def Seg.blank : Seg where
  state := .free
  snap := none
  seq := 0
  time := 0
  p := 0
  auto := false
  ovr := 0
  fault := 0
  holdsA := 0
  holdsB := 0
  pending := false
  current := false
  wrap := 0

/-- R88; an unused entry's generation and values mean nothing (log 8). -/
def Snap.initial : Snap := ⟨0, 0, []⟩

/-- R82, R84, R86, R88, R90, R97, R99; sample memory reads 0 where nothing was written (log 7). -/
def Acq.initial : Acq where
  mode := .run
  state := .settling
  segs := []
  snaps := List.replicate Config.snapEntries Snap.initial
  newest := none
  nextSlot := 0
  seqList := []
  seqCount := 0
  counter := 0
  fillCount := 0
  postCount := 0
  decim := none
  samples := []

/-- R107, R116. -/
def Renderer.initial : Renderer := ⟨[], none, [], false⟩

/-- The grey ramp (R141). -/
def greyRamp : List Word :=
  (List.range 16).map fun i => BitVec.ofNat 16 (2048 * (31 * i / 15) + 32 * (63 * i / 15) + 31 * i / 15)

/-- R141. -/
def Overlay.initial : Overlay := ⟨[], greyRamp⟩

/-- R127, R128; no build and no refresh is in hand (logs 8 and 31). -/
def Compositor.initial : Compositor where
  state := .waiting
  front := []
  back := []
  build := none
  built := 0
  reads := 0
  frameTimer := Config.frameTicks
  refresh := .none
  ovA := Overlay.initial
  ovB := Overlay.initial

/-- An EMPTY entry with its parts: 16 spaces, 0, PORT_A, 0, 0 (R150). -/
def DirEntry.initial : DirEntry := ⟨.empty, List.replicate 8 0x2020, 0, 0, 0, 0⟩

/-- R146, R151, R160: the scan's operation record is formed as the scan begins (log 24). The flash is not part of the
reset. -/
def Store.initial (flash : Cells Word) : Store where
  state := .scanning
  op := none
  scanAt := 1
  marked := false
  dir := List.replicate 16 DirEntry.initial
  startup := 0
  buffer := []
  clock := 0
  clockNext := Config.secondTicks
  flash := flash

/-- CRC seed (R182). -/
def crcSeed : Word := 0xB3C5

/-- R164; parts that mean nothing until a frame or a burst begins: log 8. -/
def PortState.initial : PortState where
  link := .idle
  header := 0
  rx := []
  staged := none
  ack := .none
  discard := 0
  response := none
  out := none
  burst := 0
  word := 0
  crc := crcSeed
  fetched := 0
  waiting := false
  inBurst := []
  counted := 0
  failed := none
  table := none
  queue := []
  lost := false
  attnMask := 3
  noticeMask := 255
  holds := []
  prst := false
  readWord := 0xFFFF

end Sys2Proof.Machine
end

