-- ==== Sys2Proof/Machine/State.lean ====
section
/-!
DEFINITION. The whole state of the part, its state after reset, and the reasons a step can stop.
-/

namespace Sys2Proof.Machine

/-- The state of the part: the queue of waiting commands (the model's own, log 1), the straps, the base tick count
(R61), the nine blocks, and the last served claimants of the two shared memories (R171, R172). -/
structure State where
  pending : List Instr
  straps : Straps
  baseTick : BitVec 64
  setup : Setup
  panel : Panel
  fe : FrontEnd
  trig : Trig
  acq : Acq
  rend : Renderer
  comp : Compositor
  store : Store
  portA : PortState
  portB : PortState
  memLast : Claimant
  fbLast : Claimant
deriving DecidableEq, Repr

/-- Reasons the machine stops with a fault. The manual names no event that stops the part, so there is none. -/
inductive Fault
deriving DecidableEq, Repr

/-- Reasons a command has no meaning. -/
inductive Refusal
  /-- A row of the table that the model gives no meaning: no arm answers it. Safe: nothing is claimed of the row. -/
  | notModelled (mnemonic : String)
deriving DecidableEq, Repr

/-- The part right after a power-on reset with these straps, before any front-end frame is sent (log 10). The flash
keeps what it holds. -/
def State.resetWith (st : Straps) (flash : Cells Word) : State where
  pending := []
  straps := st
  baseTick := 0
  setup := Setup.initial st
  panel := Panel.initial
  fe := FrontEnd.initial st
  trig := Trig.initial
  acq := Acq.initial
  rend := Renderer.initial
  comp := Compositor.initial
  store := Store.initial flash
  portA := PortState.initial
  portB := PortState.initial
  memLast := .portB
  fbLast := .portB

/-- The machine after reset: a 4-channel part with 10,000,000 samples of depth and panel L (log 5) and a flash that
was never written (log 6). -/
def State.reset : State := State.resetWith ⟨.four, .tenMillion, .l⟩ []

end Sys2Proof.Machine
end

