-- ==== Sys2Proof/Machine/Ops.lean ====
section
/-!
DEFINITION. The named operations that every block uses: words and the CRC (R181, R182), the two ports, the posting of
notices (R175, R176), and the offering of a request.
-/

namespace Sys2Proof.Machine

/-! ## Words (R181) -/

/-- A 32-bit quantity as two words, the more significant first. -/
def words32 (v : BitVec 32) : List Word := [v.extractLsb' 16 16, v.extractLsb' 0 16]

/-- A 64-bit timestamp as four words, most significant first. -/
def words64 (v : BitVec 64) : List Word :=
  [v.extractLsb' 48 16, v.extractLsb' 32 16, v.extractLsb' 16 16, v.extractLsb' 0 16]

/-- A field value as two words, in two's complement. -/
def wordsValue (v : Int) : List Word := words32 (BitVec.ofInt 32 v)

/-- A count as two words. -/
def wordsNat (n : Nat) : List Word := words32 (BitVec.ofNat 32 n)

/-- Two words as a 32-bit quantity. -/
def join32 (hi lo : Word) : BitVec 32 := hi ++ lo

/-- Two words as a signed field value. -/
def valueOf (hi lo : Word) : Int := (join32 hi lo).toInt

/-- A number as one word. -/
def word (n : Nat) : Word := BitVec.ofNat 16 n

/-- A flag as one bit of weight `n`. -/
def bitIf (c : Bool) (n : Nat) : Nat := if c then n else 0

/-! ## CRC (R182) -/

/-- Take one bit into the register. -/
def crcBit (crc : Word) (bit : Bool) : Word :=
  if crc.msb = bit then crc <<< 1 else (crc <<< 1) ^^^ (0x1021 : Word)

/-- Take one word, bit 15 first. -/
def crcWord (crc w : Word) : Word := (List.range 16).foldl (fun c i => crcBit c (w.getLsbD (15 - i))) crc

/-- The CRC of a run of words. -/
def crcOf (ws : List Word) : Word := ws.foldl crcWord crcSeed

/-! ## Lists -/

/-- Change element `i` of a list, if there is one. -/
def updateAt {α : Type} (l : List α) (i : Nat) (f : α → α) : List α :=
  l.mapIdx fun j x => if j = i then f x else x

/-! ## The two ports -/

/-- The other port. -/
def otherPort : Port → Port
  | .a => .b
  | .b => .a

/-- Code of a port as a source and as a lock holder: 0 and 1, with NONE before them for a holder (R183). -/
def holderCode : Option Port → Nat
  | none => 0
  | some .a => 1
  | some .b => 2

/-- A port's state. -/
def State.port (s : State) : Port → PortState
  | .a => s.portA
  | .b => s.portB

/-- Change one port's state. -/
def State.updPort (s : State) (p : Port) (f : PortState → PortState) : State :=
  { s with
    portA := if p = .a then f s.portA else s.portA
    portB := if p = .b then f s.portB else s.portB }

/-- Current value of a field; 0 for an id that names no present field. -/
def Setup.val (m : Setup) (id : Nat) : Int := ((m.recs.find? fun r => r.id == id).map (·.value)).getD 0

/-- Current value of a field of the live setup. -/
def State.fieldVal (s : State) (id : Nat) : Int := s.setup.val id

/-! ## Notices (R175, R176) -/

/-- Notice mask bit of a notice's class (table 10.6). -/
def noticeBit : Notice → Nat
  | .setupChanged _ _ _ _ => 0
  | .panelKey _ _ => 1
  | .panelKnob _ _ => 1
  | .runState _ => 2
  | .segmentDone _ _ _ _ => 3
  | .sequenceDone _ => 4
  | .storeDone _ _ _ => 5
  | .lockChanged _ => 6
  | .feFault _ => 7

/-- Two notices are of a coalesced kind and have the same key (R176). -/
def sameKey : Notice → Notice → Bool
  | .setupChanged i _ _ _, .setupChanged j _ _ _ => i == j
  | .panelKnob i _, .panelKnob j _ => i == j
  | .segmentDone _ _ _ _, .segmentDone _ _ _ _ => true
  | _, _ => false

/-- The unread notice `m` updated in place by `n`, of the same key (R176). -/
def mergeNotice (n m : Notice) : Notice :=
  match n, m with
  | .panelKnob e d, .panelKnob _ c => .panelKnob e (clampInt (-127) 127 (c + d))
  | .segmentDone i q a _, .segmentDone _ _ _ k => .segmentDone i q a (min 65535 (k + 1))
  | n, _ => n

/-- The mask includes the notice's class. -/
def maskTakes (mask : BitVec 8) (n : Notice) : Bool := mask.getLsbD (noticeBit n)

/-- The queue after a notice is posted under a mask. -/
def queueAfter (mask : BitVec 8) (q : List Notice) (n : Notice) : List Notice :=
  if maskTakes mask n then
    if q.any (sameKey n) then q.map fun m => if sameKey n m then mergeNotice n m else m
    else if q.length < Config.queueDepth then q ++ [n]
    else q
  else q

/-- LOST after a notice is posted under a mask. -/
def lostAfter (mask : BitVec 8) (q : List Notice) (lost : Bool) (n : Notice) : Bool :=
  lost || (maskTakes mask n && !q.any (sameKey n) && decide (Config.queueDepth ≤ q.length))

/-- A port takes a posted notice, in one act (R175). -/
def PortState.takeNotice (ps : PortState) (n : Notice) : PortState :=
  { ps with
    queue := queueAfter ps.noticeMask ps.queue n
    lost := lostAfter ps.noticeMask ps.queue ps.lost n }

/-- A block posts a notice to both ports, each by its mask. -/
def State.post (s : State) (n : Notice) : State :=
  { s with portA := s.portA.takeNotice n, portB := s.portB.takeNotice n }

/-- Notices posted in one act, in order. -/
def State.postAll (s : State) (ns : List Notice) : State := ns.foldl State.post s

/-! ## Requests (R167) -/

/-- The parameters of the request a port offers in EXECUTING, if it is of this kind and its data phase, if any, has not
been taken. -/
def State.offered (s : State) (p : Port) (kind : BitVec 8) : Option (List Word) :=
  match (s.port p).staged with
  | some r =>
    if (s.port p).link = .executing ∧ r.kind = kind ∧ r.dataDone = false then some r.params else none
  | none => none

/-- The owning block takes the request a port offers; where no such request is offered nothing happens (log 4). -/
def onRequest (p : Port) (kind : BitVec 8) (s : State) (f : List Word → State) :
    Host.Outcome State Fault Refusal :=
  .next (match s.offered p kind with
    | some ws => f ws
    | none => s)

/-- A port's parts that belong to a request in flight, as they are when none is (R164). -/
def PortState.clearRequest (ps : PortState) : PortState :=
  { ps with
    header := 0, rx := [], staged := none, response := none, out := none, burst := 0, word := 0, crc := crcSeed
    fetched := 0, waiting := false, inBurst := [], counted := 0, failed := none, table := none }

end Sys2Proof.Machine
end

