-- ==== Sys2Proof/Machine/Flags.lean ====
section
/-!
DEFINITION. The status words and lines the part shows: completion codes and response flags (R168, R183), the response
frame, the attention line (R178), the flags word of SEGMENT_INFO and the state word of TRIGGER_STATUS (R185).
-/

namespace Sys2Proof.Machine

/-- Number of a completion code (table 10.5). -/
def Code.number : Code → Nat
  | .ok => 0
  | .clamped => 1
  | .busy => 2
  | .badFrame => 3
  | .badRequest => 4
  | .badField => 5
  | .badValue => 6
  | .stale => 7
  | .locked => 8
  | .notStopped => 9
  | .noSegment => 10
  | .holdLimit => 11
  | .storeBusy => 12
  | .slotEmpty => 13
  | .slotCorrupt => 14
  | .writeFailed => 15
  | .crcError => 16
  | .aborted => 17

/-- Code of a run mode (R183). -/
def RunMode.number : RunMode → Nat
  | .stop => 0
  | .run => 1
  | .single => 2
  | .sequence => 3

/-- Code of a source (R183). -/
def Source.number : Source → Nat
  | .portA => 0
  | .portB => 1
  | .panel => 2
  | .recall => 3
  | .dflt => 4

/-- Code of a store operation (R183). No notice reports a scan, whose number means nothing (R151, log 24). -/
def OpKind.number : OpKind → Nat
  | .scan => 4
  | .save => 0
  | .recall => 1
  | .erase => 2
  | .startup => 3

/-- The flags word of a response: LOST, lock holder, run mode (R183). -/
def flagsWord (lost : Bool) (holder : Option Port) (m : RunMode) : Word :=
  word (bitIf lost 32768 + 256 * holderCode holder + m.number)

/-- The words of a response frame (R168, R183). -/
def responseWords (code : Code) (flags : Word) (results : List Word) : List Word :=
  let body := [word code.number, flags, word results.length] ++ results
  body ++ [crcOf body]

/-- Form a response whose flags report `lost`. -/
def State.respondLost (s : State) (p : Port) (lost : Bool) (code : Code) (results : List Word) : State :=
  s.updPort p fun ps =>
    { ps.clearRequest with
      link := .responding
      response := some ⟨responseWords code (flagsWord lost s.setup.holder s.acq.mode) results, 0⟩ }

/-- The completion of a request: its response is formed, and the port is RESPONDING (R168). -/
def State.respond (s : State) (p : Port) (code : Code) (results : List Word) : State :=
  s.respondLost p (s.port p).lost code results

/-- Acceptance of a request with a DATA_OUT phase: the request stays staged and its data follows the response (R167,
R168). -/
def State.respondOut (s : State) (p : Port) (code : Code) (results : List Word) (d : DataOut) : State :=
  s.updPort p fun ps =>
    { ps.clearRequest with
      link := .responding
      staged := ps.staged
      out := some d
      response := some ⟨responseWords code (flagsWord ps.lost s.setup.holder s.acq.mode) results, 0⟩ }

/-- The ATTN line of a port (R174, R178). -/
def PortState.attn (ps : PortState) : Bool :=
  !ps.prst && ((ps.attnMask.getLsbD 0 && !ps.queue.isEmpty)
    || (ps.attnMask.getLsbD 1 && decide (ps.link = .responding)))

/-- The record of a notice: 8 words (R183). -/
def noticeRecord : Notice → List Word
  | .setupChanged id v g src => [1, word id] ++ wordsValue v ++ words32 g ++ [word src.number, 0]
  | .panelKey k press => [2, word k, if press then 0 else 1, 0, 0, 0, 0, 0]
  | .panelKnob e c => [3, word e, BitVec.ofInt 16 c, 0, 0, 0, 0, 0]
  | .runState m => [4, word m.number, 0, 0, 0, 0, 0, 0]
  | .segmentDone i q a k => [5, word i] ++ words32 q ++ [if a then 1 else 0, word k, 0, 0]
  | .sequenceDone c => [6, word c, 0, 0, 0, 0, 0, 0]
  | .storeDone op slot code => [7, word op.number, word slot, word code.number, 0, 0, 0, 0]
  | .lockChanged h => [8, word (holderCode h), 0, 0, 0, 0, 0, 0]
  | .feFault ch => [9, word ch, 0, 0, 0, 0, 0, 0]

/-- Code of a segment's state (R185). -/
def SegState.number : SegState → Nat
  | .free => 0
  | .filling => 1
  | .complete => 2

/-- The flags word of SEGMENT_INFO (R185). `enabled` has channel n at bit n - 1. -/
def segFlagsWord (g : Seg) (enabled : BitVec 4) : Word :=
  word (enabled.toNat + 16 * g.ovr.toNat + 256 * g.fault.toNat
    + bitIf (g.auto && decide (g.state = .complete)) 4096 + bitIf g.pending 8192 + bitIf g.current 16384)

/-- Code of a width counter state (R185). -/
def WidthState.number : WidthState → Nat
  | .idle => 0
  | .positive => 1
  | .negative => 2

/-- Code of the EXT filter's level (R185). -/
def ExtLevel.number : ExtLevel → Nat
  | .none => 0
  | .low => 1
  | .high => 2

/-- The state word of TRIGGER_STATUS (R185). -/
def trigStateWord (t : Trig) : Word :=
  word (bitIf t.saturated 1 + bitIf t.lowSeen 2 + bitIf t.highSeen 4 + bitIf t.forced 8 + 16 * t.wstate.number)

end Sys2Proof.Machine
end

