-- ==== Sys2Proof/Machine/Segments.lean ====
section
/-!
DEFINITION. The segment store's shared operations: segment records, keeping and freeing (05 R85 to R87), the current
segment, and snapshots (R88). Together with the render queue they touch only the fields acq and rend of the state.
-/

namespace Sys2Proof.Machine

/-! ## Segment records -/

/-- Segment record i; an unlisted record is FREE (R86). -/
def Acq.seg (a : Acq) (i : Nat) : Seg := Cells.get Seg.blank a.segs i

/-- Replace segment record i. -/
def Acq.setSeg (a : Acq) (i : Nat) (g : Seg) : Acq := { a with segs := Cells.put Seg.blank a.segs i g }

/-- Segment record i of the part. -/
def State.seg (s : State) (i : Nat) : Seg := s.acq.seg i

/-- Replace segment record i of the part. -/
def State.setSeg (s : State) (i : Nat) (g : Seg) : State := { s with acq := s.acq.setSeg i g }

/-- Index of the current segment, if there is one (R86: at most one is). -/
def Acq.currentIdx (a : Acq) : Option Nat := (a.segs.find? fun c => c.2.current).map (·.1)

/-- Index of the segment that is FILLING, if there is one (R93: at most one is). -/
def Acq.fillingIdx (a : Acq) : Option Nat := (a.segs.find? fun c => decide (c.2.state = SegState.filling)).map (·.1)

/-- Live record length N. -/
def State.recordLength (s : State) : Nat := lengthOf (s.fieldVal fidRecordLength)

/-- Slot count K (R85). -/
def State.slots (s : State) : Nat := slotCount s.straps s.recordLength

/-- Holds of a segment by both ports. -/
def Seg.holds (g : Seg) : Nat := g.holdsA + g.holdsB

/-! ## Snapshots -/

/-- The values of a snapshot entry as a value map; a field it does not hold reads 0. -/
def Snap.val (n : Snap) (id : Nat) : Int := ((n.vals.find? fun p => p.1 == id).map (·.2)).getD 0

/-- The snapshot entry a record refers to; the empty entry where it refers to none. -/
def Acq.snapOf (a : Acq) (g : Seg) : Snap :=
  match g.snap with
  | some e => a.snaps.getD e Snap.initial
  | none => Snap.initial

/-- Value of an ACQ field in a segment's snapshot (R88). -/
def Acq.snapVal (a : Acq) (g : Seg) (id : Nat) : Int := (a.snapOf g).val id

/-- Record length N_s of a segment (R85). -/
def Acq.segLength (a : Acq) (g : Seg) : Nat := lengthOf (a.snapVal g fidRecordLength)

/-- Channels enabled in a segment's snapshot, ascending. -/
def Acq.segChannels (a : Acq) (g : Seg) : List Nat :=
  [1, 2, 3, 4].filter fun n => decide (a.snapVal g (chanField n 0) = 1)

/-- A set of channels as four flags, channel n at bit n - 1. -/
def chanBits (ns : List Nat) : BitVec 4 :=
  BitVec.ofNat 4 ((([1, 2, 3, 4] : List Nat).map fun n => bitIf (ns.contains n) (2 ^ (n - 1))).sum)

/-- The live values of the ACQ fields present on the part (R88). -/
def State.liveAcq (s : State) : List (Nat × Int) := (acqIds s.straps).map fun i => (i, s.fieldVal i)

/-! ## Keeping and freeing (R87) -/

/-- A COMPLETE segment is kept: a port holds it, or its index is below K and it is current, render-pending or in the
sequence list. -/
def State.kept (s : State) (i : Nat) : Bool :=
  decide (0 < (s.seg i).holds)
    || (decide (i < s.slots) && ((s.seg i).current || (s.seg i).pending || s.acq.seqList.contains i))

/-- The snapshot table after one reference to an entry is given back. -/
def dropRef (snaps : List Snap) (e : Option Nat) : List Snap :=
  match e with
  | some e => updateAt snaps e fun n => { n with refs := n.refs - 1 }
  | none => snaps

/-- Freeing, one act: the record becomes FREE and blank, the segment leaves the sequence list, its snapshot loses a
reference, and the renderer removes it or abandons its render (R87, R111). -/
def State.freeSeg (s : State) (i : Nat) : State :=
  { s with
    acq := { s.acq with
      segs := Cells.put Seg.blank s.acq.segs i Seg.blank
      snaps := dropRef s.acq.snaps (s.seg i).snap
      seqList := s.acq.seqList.filter (· != i) }
    rend := { s.rend with
      queue := s.rend.queue.filter (· != i)
      render := s.rend.render.filter fun r => r.seg != i } }

/-- A COMPLETE segment that is not kept is freed at once. -/
def State.freeIfUnkept (s : State) (i : Nat) : State :=
  if (s.seg i).state = .complete ∧ s.kept i = false then s.freeSeg i else s

/-- Every COMPLETE segment of a list of indices that is not kept is freed. -/
def State.freeUnkept (s : State) (is : List Nat) : State := is.foldl State.freeIfUnkept s

/-- The indices of the records that are not FREE. -/
def Acq.usedIdx (a : Acq) : List Nat := a.segs.map (·.1)

/-- Free every COMPLETE segment of a list that no port holds, whatever else keeps it (R100, R13). -/
def State.freeUnheld (s : State) (is : List Nat) : State :=
  is.foldl (fun s i => if (s.seg i).state = .complete ∧ (s.seg i).holds = 0 then s.freeSeg i else s) s

/-- The FILLING segment is abandoned: freed, and the decimator stops (R101, R60). -/
def State.abandonFilling (s : State) : State :=
  let t := match s.acq.fillingIdx with
    | some i => s.freeSeg i
    | none => s
  { t with acq := { t.acq with decim := none, fillCount := 0, postCount := 0 } }

/-- A segment becomes current; the one that was loses its flag and is freed if no longer kept (R97, R105). -/
def State.makeCurrent (s : State) (i : Nat) : State :=
  match s.acq.currentIdx with
  | some j =>
    if j = i then s
    else
      let t := s.setSeg j { s.seg j with current := false }
      let t := t.setSeg i { t.seg i with current := true }
      t.freeIfUnkept j
  | none => s.setSeg i { s.seg i with current := true }

end Sys2Proof.Machine
end

