-- ==== Sys2Proof/Machine/Render.lean ====
section
/-!
DEFINITION. The renderer (06): the render queue, taking and ending renders, raster clears, decay, and the column step.
-/

namespace Sys2Proof.Machine

/-! ## Decay (R122 to R124) -/

/-- PERSIST_MODE TIMED on one count, with s = PERSIST_DECAY. -/
def decayTimed (s : Nat) (c : Byte) : Byte :=
  if c = 0 then 0 else BitVec.ofNat 8 (c.toNat - max 1 (c.toNat / 2 ^ s))

/-- One decay over all four rasters (R124). -/
def decayRasters (mode dec : Int) (r : Cells Byte) : Cells Byte :=
  if mode = 0 then []
  else if mode = 1 then Cells.mapVals 0 (decayTimed dec.toNat) r
  else r

/-- A decay with the live PERSIST_MODE and PERSIST_DECAY is applied if it is due; the flag clears (R123). -/
def State.consumeDecay (s : State) : State :=
  { s with rend := { s.rend with
      rasters := if s.rend.decayDue then decayRasters (s.fieldVal 59) (s.fieldVal 60) s.rend.rasters else s.rend.rasters
      decayDue := false } }

/-! ## The queue (R108 to R111) -/

/-- The renderer clears a segment's render-pending flag; the segment is freed if no longer kept (R108). -/
def State.clearPending (s : State) (i : Nat) : State :=
  (s.setSeg i { s.seg i with pending := false }).freeIfUnkept i

/-- Room in a full queue: the oldest is dropped (R110). -/
def State.makeRoom (s : State) : State :=
  if s.rend.queue.length < Config.renderDepth then s
  else
    match s.rend.queue with
    | i :: q => ({ s with rend := { s.rend with queue := q } }).clearPending i
    | [] => s

/-- Add an index at the tail and set its render-pending flag. -/
def State.enqueue (s : State) (i : Nat) : State :=
  let t := { s with rend := { s.rend with queue := s.rend.queue ++ [i] } }
  t.setSeg i { t.seg i with pending := true }

/-- A hand-off (R109, R110). The renderer takes the segment in `resume`. -/
def State.handOff (s : State) (i : Nat) : State :=
  if s.rend.queue.contains i then s else s.makeRoom.enqueue i

/-! ## Renders (R112 to R115) -/

/-- The render in flight is abandoned: the record is discarded, the segment's flag clears (R115 steps 1 and 2). -/
def State.abandonRender (s : State) : State :=
  match s.rend.render with
  | some r => ({ s with rend := { s.rend with render := none } }).clearPending r.seg
  | none => s

/-- Raster clear: every count 0 and a render in flight abandoned (R118). -/
def State.clearRasters (s : State) : State :=
  let t := { s with rend := { s.rend with rasters := [] } }
  t.abandonRender

/-- Purge: every index leaves the queue and loses its flag, and the render in flight is abandoned (R111). -/
def State.purge (s : State) : State :=
  let t := s.rend.queue.foldl State.clearPending { s with rend := { s.rend with queue := [] } }
  t.abandonRender

/-- The window of a render (R113): first sample, length. -/
def renderWindow (view start len : Nat) : Nat × Nat := (min start (len - min view len), min view len)

/-- The render record formed when segment i is taken (R112, R113). -/
def State.formRender (s : State) (i : Nat) : Render :=
  let len := s.acq.segLength (s.seg i)
  let w := renderWindow (lengthOf (s.fieldVal fidViewLength)) (s.fieldVal fidViewStart).toNat len
  { seg := i, start := w.1, len := w.2, bin := w.2 / 500
    chans := (s.acq.segChannels (s.seg i)).map fun n =>
      ⟨n, s.fieldVal (chanField n 2), decide (s.fieldVal (chanField n 6) = 1)⟩
    hand := 0, col := 0, prevRow := none, read := 0 }

/-- The idle renderer takes segments from the queue until one has a channel to draw; a segment with none is complete
as it is taken (R112, R114). `fuel` is the length of the queue. -/
def State.takeRender (s : State) : Nat → State
  | 0 => s
  | fuel + 1 =>
    match s.rend.queue with
    | [] => s
    | i :: q =>
      let r := s.formRender i
      let t := { s with rend := { s.rend with queue := q } }
      if r.chans.isEmpty then State.takeRender (t.clearPending i) fuel
      else { t with rend := { t.rend with render := some r } }

/-- What follows a hand-off or the end of a render: with no render in flight, a due decay is applied and the next
segment is taken (R112, R114, R115, R123). -/
def State.resume (s : State) : State :=
  match s.rend.render with
  | some _ => s
  | none => s.consumeDecay.takeRender s.rend.queue.length

/-! ## Mapping (R119 to R121) -/

/-- Row of a code (R119). -/
def rowOf (pos : Int) (inv : Bool) (c : Byte) : Nat :=
  let y : Int := if inv then (128 - (c.toNat : Int)) * 2 + pos else ((c.toNat : Int) - 128) * 2 + pos
  if 199 < y then 0 else if y < -200 then 399 else (199 - y).toNat

/-- Position in its slot of the sample at logical index `i` of a segment: the pretrigger part begins at the wrap
position (R96). -/
def slotPos (p wrap i : Nat) : Nat := if i < p then (wrap + i) % p else i

/-- Key of a sample of channel n at an address of its memory (R85). -/
def sampleKey (n addr : Nat) : Nat := (n - 1) * Config.sampleSpan + addr

/-- Sample of channel n at logical index `i` of segment `j` (R85, R96). -/
def Acq.sample (a : Acq) (j n i : Nat) : Byte :=
  Cells.get 0 a.samples
    (sampleKey n (j * a.segLength (a.seg j) + slotPos (a.seg j).p (a.seg j).wrap i))

/-- Key of a pixel of raster n (R116). -/
def rasterKey (n col row : Nat) : Nat := ((n - 1) * Config.rasterW + col) * Config.rasterH + row

/-- One hit on a pixel, saturating at 255 (R121). -/
def addHit (r : Cells Byte) (k : Nat) : Cells Byte :=
  Cells.put 0 r k (if Cells.get 0 r k = 255 then 255 else Cells.get 0 r k + 1)

/-- Rows of the column's B samples (R120). -/
def columnRows (a : Acq) (r : Render) (m : ChanMap) : List Nat :=
  (List.range r.bin).map fun i => rowOf m.pos m.inv (a.sample r.seg m.ch (r.start + r.col * r.bin + i))

/-- Row of the join sample: read at column 0 when S_r > 0, and the previous row afterwards (R120). -/
def joinRow (a : Acq) (r : Render) (m : ChanMap) : Option Nat :=
  if r.col = 0 then
    (if 0 < r.start then some (rowOf m.pos m.inv (a.sample r.seg m.ch (r.start - 1))) else none)
  else r.prevRow

/-- The rows that bound the span of a column. -/
def spanRows (a : Acq) (r : Render) (m : ChanMap) : List Nat := columnRows a r m ++ (joinRow a r m).toList

/-- The span: the run of rows from the least to the greatest (R121). -/
def spanOf (rows : List Nat) : List Nat :=
  (List.range Config.rasterH).filter fun r => rows.any (fun x => x ≤ r) && rows.any (fun x => r ≤ x)

/-- The rasters after the column in hand is drawn. -/
def drawColumn (a : Acq) (r : Render) (m : ChanMap) (ras : Cells Byte) : Cells Byte :=
  ((spanOf (spanRows a r m)).map fun row => rasterKey m.ch r.col row).foldl addHit ras

/-- Samples of the channel in hand that the render must have read before its next column: those up to the column's
last, and the one before the window (R114, R126; log 20). -/
def samplesNeeded (r : Render) : Nat := (r.col + 1) * r.bin + (if 0 < r.start then 1 else 0)

/-- The render record after a column: the next column, or the first column of the next channel. -/
def nextColumn (a : Acq) (r : Render) (m : ChanMap) : Render :=
  if r.col + 1 < Config.rasterW then { r with col := r.col + 1, prevRow := (columnRows a r m).getLast? }
  else { r with hand := r.hand + 1, col := 0, prevRow := none, read := 0 }

/-- One column step of the render in flight (R114). -/
def State.columnStep (s : State) (r : Render) (m : ChanMap) : State :=
  let t := { s with rend := { s.rend with
    rasters := drawColumn s.acq r m s.rend.rasters
    render := some (nextColumn s.acq r m) } }
  if (nextColumn s.acq r m).hand < r.chans.length then t else t.abandonRender.resume

end Sys2Proof.Machine
end

