-- ==== Sys2Proof/Machine/Compose.lean ====
section
/-!
DEFINITION. The compositor (07): the image of a build, layer by layer (R131 to R140), builds and the flip (R128 to R130),
and the overlay planes (R141 to R144).
-/

namespace Sys2Proof.Machine

/-! ## Colours -/

/-- A colour word of RGB 5:6:5 components (R181). -/
def colour (r g b : Nat) : Word := BitVec.ofNat 16 (2048 * r + 32 * g + b)

/-- Base colour of a channel (R134). -/
def baseColour (n : Nat) : Nat × Nat × Nat :=
  match n with
  | 1 => (31, 63, 0)
  | 2 => (0, 63, 31)
  | 3 => (31, 0, 31)
  | _ => (0, 63, 0)

/-- The base colour as a word. -/
def baseWord (n : Nat) : Word := colour (baseColour n).1 (baseColour n).2.1 (baseColour n).2.2

/-- White (R136). -/
def white : Word := colour 31 63 31

/-- Level 1..8 of a count above 0 under INTENSITY (R134). -/
def traceLevel (intensity c : Nat) : Nat := min 255 (c * intensity) / 32 + 1

/-- Colour of a count above 0 of channel n (R134). -/
def traceColour (intensity n c : Nat) : Word :=
  let l := traceLevel intensity c
  colour ((baseColour n).1 * l / 8) ((baseColour n).2.1 * l / 8) ((baseColour n).2.2 * l / 8)

/-! ## The inputs of a build (R129) -/

/-- A field's value as the build took it. -/
def BuildInputs.val (b : BuildInputs) (id : Nat) : Int := ((b.vals.find? fun p => p.1 == id).map (·.2)).getD 0

/-- A field of channel n as the build took it. -/
def BuildInputs.chanVal (b : BuildInputs) (n q : Nat) : Int := b.val (chanField n q)

/-- All the inputs as they stand at the build's start (R129). -/
def State.buildInputs (s : State) : BuildInputs where
  channels := channelCount s.straps
  vals := (presentIds s.straps).map fun i => (i, s.fieldVal i)
  rasters := s.rend.rasters
  changed := s.setup.changed
  holder := s.setup.holder
  mode := s.acq.mode
  current := s.acq.currentIdx.map fun i => ((s.seg i).ovr, (s.seg i).fault)
  ovA := s.comp.ovA
  ovB := s.comp.ovB

/-! ## Graticule and traces (R133, R134) -/

/-- A division line lies here (R133, FULL). -/
def onDivision (j r : Nat) : Bool := decide (j % 50 = 0) || decide (j = 499) || decide (r % 50 = 0) || decide (r = 399)

/-- A centre line or one of its ticks lies here (R133, AXES). -/
def onAxes (j r : Nat) : Bool :=
  decide (j = 250) || decide (r = 200)
    || (decide (r % 10 = 0) && decide (248 ≤ j) && decide (j ≤ 252))
    || (decide (j % 10 = 0) && decide (198 ≤ r) && decide (r ≤ 202))

/-- The graticule has a line here, by GRATICULE (R133). -/
def onGraticule (g : Int) (j r : Nat) : Bool :=
  if g = 0 then onDivision j r || onAxes j r else if g = 1 then onAxes j r else false

/-- The channels present from the top trace layer down: the front channel, then 1, 2, 3, 4 without it (R134). -/
def traceOrder (channels front : Nat) : List Nat :=
  let present := (List.range channels).map (· + 1)
  present.filter (· == front) ++ present.filter (· != front)

/-- The trace layer at a raster position, where it is opaque (R134). -/
def traceAt (b : BuildInputs) (j r : Nat) : Option Word :=
  ((traceOrder b.channels (b.val fidFront).toNat).find? fun n =>
      decide (Cells.get 0 b.rasters (rasterKey n j r) ≠ 0)).map fun n =>
    traceColour (b.val 61).toNat n (Cells.get 0 b.rasters (rasterKey n j r)).toNat

/-- The graticule layer, where it is opaque. -/
def graticuleAt (b : BuildInputs) (j r : Nat) : Option Word :=
  if onGraticule (b.val 62) j r then some (colour 8 16 8) else none

/-! ## Marker (R135) -/

/-- The source channel of the trigger, if TRIG_SOURCE names a channel. -/
def BuildInputs.sourceChan (b : BuildInputs) : Option Nat :=
  if b.val 41 = 4 then none else some ((b.val 41).toNat + 1)

/-- The trigger-level marker at a screen position, where it is opaque. -/
def markerAt (b : BuildInputs) (x y : Nat) : Option Word :=
  match b.sourceChan with
  | none => none
  | some n =>
    let r := rowOf (b.chanVal n 2) (decide (b.chanVal n 6 = 1)) (BitVec.ofInt 8 (b.val 43))
    let d := ((y : Int) - 40 - r).natAbs
    if 40 ≤ y ∧ y ≤ 439 ∧ d ≤ 3 ∧ 520 + 2 * d ≤ x ∧ x ≤ 527 then some (baseWord n) else none

/-! ## Values (R137) -/

/-- Decimal digits of a number below 1,000 as `n` characters. -/
def digitsOf (n v : Nat) : List Char :=
  match n with
  | 0 => []
  | n + 1 => Char.ofNat (48 + v / 10 ^ n % 10) :: digitsOf n v

/-- Index 0..4 of the exponent: the largest of -9, -6, -3, 0, 3 that the magnitude reaches; `a` is in billionths. -/
def expIndex (a : Nat) : Nat :=
  if 1000 ^ 4 ≤ a then 4 else if 1000 ^ 3 ≤ a then 3 else if 1000 ^ 2 ≤ a then 2 else if 1000 ≤ a then 1 else 0

/-- The mantissa rounded to three digits, a half up, in hundredths; `u` is 10^e in billionths. -/
def roundMantissa (a u : Nat) : Nat :=
  if a < 10 * u then (200 * a + u) / (2 * u)
  else if a < 100 * u then (20 * a + u) / (2 * u) * 10
  else (2 * a + u) / (2 * u) * 100

/-- The mantissa in hundredths and the exponent index, a mantissa of 1,000 carried to the next prefix. -/
def mantissaOf (a : Nat) : Nat × Nat :=
  let e := expIndex a
  let m := roundMantissa a (1000 ^ e)
  if 100000 ≤ m ∧ e < 4 then (100, e + 1) else (m, e)

/-- "d.dd", "dd.d" or "ddd" of a mantissa in hundredths. -/
def mantissaText (m : Nat) : List Char :=
  if m < 1000 then digitsOf 1 (m / 100) ++ ['.'] ++ digitsOf 2 (m % 100)
  else if m < 10000 then digitsOf 2 (m / 100) ++ ['.'] ++ digitsOf 1 (m / 10 % 10)
  else digitsOf 3 (m / 100)

/-- Prefix of an exponent index. -/
def siChars (e : Nat) : List Char :=
  match e with
  | 0 => ['n']
  | 1 => ['µ']
  | 2 => ['m']
  | 3 => []
  | _ => ['k']

/-- A value in billionths of a volt or a second, as text (R137). -/
def valueText (x : Int) (unit : Char) : List Char :=
  if x = 0 then "0.00".toList ++ [unit]
  else
    let m := mantissaOf x.natAbs
    (if x < 0 then ['−'] else []) ++ mantissaText m.1 ++ siChars m.2 ++ [unit]

/-! ## Readout items (R136, R138 to R140) -/

/-- A mark when a condition holds. -/
def markIf (c : Bool) (m : Char) : List Char := if c then [m] else []

/-- Any of these fields is in the changed-while-stopped set. -/
def BuildInputs.marked (b : BuildInputs) (ids : List Nat) : Bool := ids.any fun i => b.changed.contains i

/-- Volts a division at the probe tip of channel n, in billionths (R138). -/
def BuildInputs.tipVolts (b : BuildInputs) (n : Nat) : Int :=
  (scaleMilliVolts (b.chanVal n 1) * 10 ^ (b.chanVal n 5).toNat * 1000000 : Nat)

/-- The coupling mark. -/
def couplingMark (c : Int) : Char := if c = 0 then '=' else if c = 1 then '~' else 'G'

/-- Flag of channel n among four. -/
def chanFlag (f : BitVec 4) (n : Nat) : Bool := f.getLsbD (n - 1)

/-- The channel item (R138). -/
def channelItem (b : BuildInputs) (n : Nat) : List Char :=
  digitsOf 1 n ++ [' '] ++ valueText (b.tipVolts n) 'V' ++ [couplingMark (b.chanVal n 3)]
    ++ markIf (b.current.any fun c => chanFlag c.1 n) '!'
    ++ markIf (b.current.any fun c => chanFlag c.2 n) 'F'
    ++ markIf (b.marked [chanField n 0, chanField n 1, chanField n 3, chanField n 4]) '*'

/-- The time item (R139). -/
def timeItem (b : BuildInputs) : List Char :=
  valueText (intervalOf (b.val 32) * lengthOf (b.val fidViewLength) / 10 : Nat) 's'
    ++ markIf (b.marked [32, 33, 34, 35]) '*'

/-- The slope mark (R139). -/
def slopeMark (c : Int) : Char := if c = 0 then '/' else if c = 1 then '\\' else 'X'

/-- The trigger item (R139). -/
def triggerItem (b : BuildInputs) : List Char :=
  (match b.sourceChan with
    | some n => "CH".toList ++ digitsOf 1 n
    | none => "EXT".toList)
    ++ [' '] ++ markIf (decide (b.val 40 = 1)) 'W' ++ [slopeMark (b.val 42)]
    ++ (match b.sourceChan with
      | some n => [' '] ++ valueText ((b.val 43 - 128) * (b.tipVolts n / 25)) 'V'
      | none => [])
    ++ markIf (b.marked [40, 41, 42, 43, 44, 45, 46, 47, 51]) '*'

/-- The run-mode item (R140). -/
def runModeItem (b : BuildInputs) : List Char :=
  (match b.mode with
    | .stop => "STOP"
    | .run => "RUN"
    | .single => "SINGLE"
    | .sequence => "SEQUENCE").toList ++ markIf (!b.changed.isEmpty) '*'

/-- The lock item (R140). -/
def lockItem (b : BuildInputs) : List Char :=
  match b.holder with
  | none => []
  | some .a => "LOCK A".toList
  | some .b => "LOCK B".toList

/-- The item of line 1 or 2 that a cell belongs to: its first cell, its colour and its text (table of R136). -/
def itemAt (b : BuildInputs) (line cell : Nat) : Nat × Word × List Char :=
  if line = 1 then
    if cell < 80 then
      let n := cell / 20 + 1
      (20 * (cell / 20), baseWord n, if n ≤ b.channels ∧ b.chanVal n 0 = 1 then channelItem b n else [])
    else if cell < 90 then (80, white, runModeItem b)
    else (90, white, lockItem b)
  else if cell < 20 then (0, white, timeItem b)
  else if cell < 50 then (20, white, triggerItem b)
  else (50, white, [])

/-- The text line at a screen row, and the row within its cells (R136). -/
def lineAt (y : Nat) : Option (Nat × Nat) :=
  if 4 ≤ y ∧ y ≤ 19 then some (1, y - 4) else if 22 ≤ y ∧ y ≤ 37 then some (2, y - 22) else none

/-- The readout strip at a screen position, where it is opaque (R136). -/
def readoutAt (b : BuildInputs) (x y : Nat) : Option Word :=
  if b.val 63 = 1 then
    match lineAt y with
    | none => none
    | some (line, row) =>
      let it := itemAt b line (x / 8)
      match it.2.2[x / 8 - it.1]? with
      | some c => if Config.glyph c (x % 8) row then some it.2.1 else none
      | none => none
  else none

/-! ## The image (R131, R132) -/

/-- An overlay at a screen position, where it is opaque. -/
def overlayAt (o : Overlay) (x y : Nat) : Option Word :=
  let i := Cells.get 0 o.plane (y * Config.screenW + x)
  if i = 0 then none else some (o.palette.getD i.toNat 0)

/-- The layers of the waveform area at a screen position: traces over graticule. -/
def waveformAt (b : BuildInputs) (x y : Nat) : Option Word :=
  if 20 ≤ x ∧ x ≤ 519 ∧ 40 ≤ y ∧ y ≤ 439 then
    (traceAt b (x - 20) (y - 40)).or (graticuleAt b (x - 20) (y - 40))
  else none

/-- Colour of a pixel: the highest layer that is not transparent there (R132). -/
def pixelAt (b : BuildInputs) (x y : Nat) : Word :=
  ((overlayAt b.ovA x y).or
    ((overlayAt b.ovB x y).or
      ((readoutAt b x y).or
        ((markerAt b x y).or (waveformAt b x y))))).getD 0

/-- Pixel number k of the image, in row order. -/
def imagePixel (b : BuildInputs) (k : Nat) : Word := pixelAt b (k % Config.screenW) (k / Config.screenW)

/-- Pixels of the screen. -/
def screenWords : Nat := Config.screenW * Config.screenH

/-! ## Builds and the flip (R128 to R130) -/

/-- The buffer a refresh reads, after the buffers have changed roles. -/
def Refresh.swap : Refresh → Refresh
  | .none => .none
  | .front => .back
  | .back => .front

/-- A flip exchanges the roles of the buffers; the state becomes WAITING (R130). -/
def Compositor.flip (c : Compositor) : Compositor :=
  { c with state := .waiting, front := c.back, back := c.front, refresh := c.refresh.swap, build := none, built := 0 }

/-- The end of a build, whose image stands whole in the back buffer: the flip is made or held (R130). -/
def Compositor.endBuild (c : Compositor) : Compositor :=
  let d := { c with build := none, built := 0 }
  if c.reads = 0 then d.flip else { d with state := .flipHeld }

/-- The screen-read count falls by one; at 0 in FLIP_HELD the flip is made (R145). -/
def Compositor.endRead (c : Compositor) : Compositor :=
  let d := { c with reads := c.reads - 1 }
  if c.reads ≤ 1 ∧ c.state = .flipHeld then d.flip else d

/-! ## Overlays (R141 to R144) -/

/-- A port's overlay. -/
def Compositor.overlay (c : Compositor) : Port → Overlay
  | .a => c.ovA
  | .b => c.ovB

/-- Change a port's overlay. -/
def Compositor.updOverlay (c : Compositor) (p : Port) (f : Overlay → Overlay) : Compositor :=
  { c with ovA := if p = .a then f c.ovA else c.ovA, ovB := if p = .b then f c.ovB else c.ovB }

/-- Store one pixel at a plane position; one that lies off the plane is clipped (R142). -/
def putPixel (m : Cells (BitVec 4)) (x y : Int) (i : BitVec 4) : Cells (BitVec 4) :=
  if 0 ≤ x ∧ x < (Config.screenW : Int) ∧ 0 ≤ y ∧ y < (Config.screenH : Int) then
    Cells.put 0 m (y.toNat * Config.screenW + x.toNat) i
  else m

/-- Pixel number p of a rectangle belongs at (x + p mod w, y + floor(p / w)) (R142). -/
def putRectPixel (x y : Int) (w : Nat) (m : Cells (BitVec 4)) (p : Nat) (i : BitVec 4) : Cells (BitVec 4) :=
  putPixel m (x + ((p % w : Nat) : Int)) (y + ((p / w : Nat) : Int)) i

/-- The four pixels of a data word, the first in its most significant four bits (R142). -/
def wordPixels (v : Word) : List (BitVec 4) :=
  [v.extractLsb' 12 4, v.extractLsb' 8 4, v.extractLsb' 4 4, v.extractLsb' 0 4]

/-- Store pixels from number `p` on, as far as the rectangle's `total` pixels go. -/
def putPixels (x y : Int) (w total : Nat) : Cells (BitVec 4) → Nat → List (BitVec 4) → Cells (BitVec 4)
  | m, _, [] => m
  | m, p, i :: is => putPixels x y w total (if p < total then putRectPixel x y w m p i else m) (p + 1) is

/-- Store the pixels of a burst that begins at data word `first` of the rectangle's data (R142). -/
def storeBurst (x y : Int) (w h first : Nat) (ws : List Word) (o : Overlay) : Overlay :=
  { o with plane := putPixels x y w (w * h) o.plane (4 * first) (ws.flatMap wordPixels) }

/-- Every position of a rectangle takes one index (R143). -/
def fillRect (x y : Int) (w h : Nat) (i : BitVec 4) (o : Overlay) : Overlay :=
  { o with plane := (List.range (w * h)).foldl (fun m p => putRectPixel x y w m p i) o.plane }

/-- Entries of a palette from `first` on take colours (R144). -/
def setPalette (first : Nat) (cs : List Word) (o : Overlay) : Overlay :=
  { o with palette := o.palette.mapIdx fun i c => if first ≤ i then cs.getD (i - first) c else c }

end Sys2Proof.Machine
end

