-- ==== Sys2Proof/Machine/Beeper.lean ====
section
/-!
DEFINITION. The beeper (02 R45, R46): its tone state and the requests that reach it.
-/

namespace Sys2Proof.Machine

/-- A click request at the tone state: 4 kHz for 5 ms; an error tone absorbs it (R45). -/
def Tone.clickRequest : Tone → Tone
  | .error f l => .error f l
  | _ => .click Config.clickHz (5 * Config.msTicks)

/-- An error request at the tone state, with its frequency in Hz and duration in ms; an error tone absorbs it (R45). -/
def Tone.errorRequest (t : Tone) (freq ms : Nat) : Tone :=
  match t with
  | .error f l => .error f l
  | _ => .error freq (ms * Config.msTicks)

/-- Put a tone in place. -/
def State.setTone (s : State) (t : Tone) : State := { s with panel := { s.panel with tone := t } }

/-- A click is requested when KEY_CLICK is ON (R28, R45). -/
def State.click (s : State) : State := s.setTone (if s.fieldVal 65 = 1 then s.panel.tone.clickRequest else s.panel.tone)

/-- A tone is presented as an error request when BEEP is ON (R45, R46). -/
def State.beepTone (s : State) (freq ms : Nat) : State :=
  s.setTone (if s.fieldVal 66 = 1 then s.panel.tone.errorRequest freq ms else s.panel.tone)

/-- The error beep: 1 kHz for 150 ms, when BEEP is ON (R36, R45). -/
def State.errorBeep (s : State) : State := s.beepTone 1000 150

/-- The beeper becomes SILENT (R45). -/
def Tone.expire (_t : Tone) : Tone := .silent

/-- Bring a number within limits. -/
def clampNat (lo hi n : Nat) : Nat := min hi (max lo n)

end Sys2Proof.Machine
end

