-- ==== Sys2Proof/Machine/FrontEnd.lean ====
section
/-!
DEFINITION. The front-end controller (03 R49 to R58): derived settings, requests, the link arbiter, confirmations,
mismatches, and the settled condition.
-/

namespace Sys2Proof.Machine

/-- Channel record n; the initial record for a channel that is absent. -/
def FrontEnd.chan (f : FrontEnd) (n : Nat) : ChanRec := f.chans.getD (n - 1) ChanRec.initial

/-- Change channel record n. -/
def FrontEnd.updChan (f : FrontEnd) (n : Nat) (g : ChanRec → ChanRec) : FrontEnd :=
  { f with chans := updateAt f.chans (n - 1) g }

/-- Settings of channel n derived from the live setup (R50). -/
def State.deriveSettings (s : State) (n : Nat) : Settings :=
  settingsOf (s.fieldVal (chanField n 1)) (s.fieldVal (chanField n 3)) (s.fieldVal (chanField n 4))

/-- The word of a frame (10.7, R186). -/
def frameWordOf (tag : BitVec 4) (n : Nat) (g : Settings) : Word :=
  tag ++ (BitVec.ofNat 2 (n - 1) ++ (BitVec.ofBool g.div100 ++ (g.gain ++ (g.coupling ++ (BitVec.ofBool g.limit ++ (0 : BitVec 2))))))

/-- An echo is equal to the frame in flight: channel and settings agree; bits 1..0 are ignored (R53, R186). -/
def echoEqual (echo frame : Word) : Bool := echo.extractLsb' 2 10 == frame.extractLsb' 2 10

/-- The request for an update, at the channel's record (R51). -/
def ChanRec.request (c : ChanRec) : ChanRec :=
  match c.upd with
  | .idle => { c with upd := .waiting, attempt := 1, settle := none }
  | .waiting => c
  | .awaitEcho => { c with pendingLatest := true }

/-- Update requests for a list of channels (R12). -/
def FrontEnd.request (f : FrontEnd) (ns : List Nat) : FrontEnd :=
  ns.foldl (fun f n => f.updChan n ChanRec.request) f

/-- The WAITING channel that comes first in the cyclic order after the one last served (R52). -/
def FrontEnd.nextWaiting (f : FrontEnd) : Option Nat :=
  ((List.range f.chans.length).map fun k => (f.lastServed + k) % f.chans.length + 1).find? fun n =>
    decide ((f.chan n).upd = .waiting)

/-- Send a frame for channel n with the settings `g` and the next tag (R52, R55; the echo timer: log 12). -/
def FrontEnd.send (f : FrontEnd) (n : Nat) (g : Settings) (upd : ChanRec → ChanRec) : FrontEnd :=
  { f.updChan n upd with
    tag := f.tag + 1
    link := some ⟨n, frameWordOf (f.tag + 1) n g⟩
    lastServed := n
    echoTimer := some Config.echoTicks }

/-- The link arbiter: while the link is FREE and a channel is WAITING, its frame is sent (R52). -/
def State.feArbitrate (s : State) : State :=
  match s.fe.link, s.fe.nextWaiting with
  | none, some n =>
    { s with fe := s.fe.send n (s.deriveSettings n) fun c =>
        { c with upd := .awaitEcho, sent := s.deriveSettings n } }
  | _, _ => s

/-- A channel is settled (R58). -/
def ChanRec.settled (c : ChanRec) : Bool := decide (c.upd = .idle) && !c.pendingLatest && c.settle.isNone

/-- The front end is settled: every channel that is ON is settled (R58). -/
def State.feSettled (s : State) : Bool :=
  (enabledUnder s.straps s.fieldVal).all fun n => (s.fe.chan n).settled

/-- A confirmation at the channel's record (R54 steps 1, 2, 3, 5, 6). -/
def ChanRec.confirm (c : ChanRec) : ChanRec :=
  let moved := match c.confirmed with
    | none => true
    | some k => c.relayMoved || decide (c.sent.div100 ≠ k.div100) || decide (c.sent.coupling ≠ k.coupling)
  { c with
    relayMoved := moved
    confirmed := some c.sent
    fault := false
    pendingLatest := false
    upd := if c.pendingLatest then .waiting else .idle
    attempt := if c.pendingLatest then 1 else c.attempt
    settle := if c.pendingLatest then none
      else some (if moved then Config.settleRelayTicks else Config.settleTicks) }

/-- A failed update at the channel's record (R55, attempt 2). -/
def ChanRec.fail (c : ChanRec) : ChanRec :=
  { c with
    fault := true
    pendingLatest := false
    upd := if c.pendingLatest then .waiting else .idle
    attempt := if c.pendingLatest then 1 else c.attempt }

/-- A confirmation of channel n's frame (R54). -/
def State.feConfirm (s : State) (n : Nat) : State :=
  { s with fe := { s.fe.updChan n ChanRec.confirm with link := none, echoTimer := none } }

/-- The filling segment takes the FE_FAULT flag of a channel its snapshot enables (R56). -/
def State.flagFault (s : State) (n : Nat) : State :=
  match s.acq.fillingIdx with
  | some i =>
    if (s.acq.segChannels (s.seg i)).contains n
    then s.setSeg i { s.seg i with fault := (s.seg i).fault ||| chanBits [n] }
    else s
  | none => s

/-- A mismatch of channel n's frame, by its attempt (R55). -/
def State.feMismatch (s : State) (n : Nat) : State :=
  if (s.fe.chan n).attempt = 1 then
    { s with fe := s.fe.send n (s.deriveSettings n) fun c =>
        { c with upd := .awaitEcho, attempt := 2, sent := s.deriveSettings n, pendingLatest := false } }
  else
    (({ s with fe := { s.fe.updChan n ChanRec.fail with link := none, echoTimer := none } }).flagFault n).post
      (.feFault n)

end Sys2Proof.Machine
end

