-- ==== Sys2Proof/Machine/Trigger.lean ====
section
/-!
DEFINITION. The trigger unit (04): edge trackers, EXT filter, width counter, candidates, and what taking a trigger does
to the trigger unit. A value map `v` gives the fields of the filling segment's snapshot (R63).
-/

namespace Sys2Proof.Machine

/-- Firings of the RISING and the FALLING tracker at a sample. -/
abbrev Firings := Bool × Bool

/-- TRIG_SOURCE is EXT. -/
def sourceIsExt (v : Nat → Int) : Bool := decide (v 41 = 4)

/-- RISING tracker at a code: LOW_SEEN after, and whether it fires (R64). -/
def trackRising (level hyst : Nat) (seen : Bool) (c : Nat) : Bool × Bool :=
  if seen then (!decide (level ≤ c), decide (level ≤ c)) else (decide (c ≤ level - hyst), false)

/-- FALLING tracker at a code: HIGH_SEEN after, and whether it fires (R65). -/
def trackFalling (level hyst : Nat) (seen : Bool) (c : Nat) : Bool × Bool :=
  if seen then (!decide (c ≤ level), decide (c ≤ level)) else (decide (min 255 (level + hyst) ≤ c), false)

/-- A raw EXT level. -/
def extLevelOf (raw : Bool) : ExtLevel := if raw then .high else .low

/-- EXT filter at a raw level: accepted level and count after, and whether the sample is an EXT edge (R66). -/
def filterExt (lvl : ExtLevel) (count : Nat) (raw : Bool) : ExtLevel × Nat × Bool :=
  match lvl with
  | .none => (extLevelOf raw, 0, false)
  | _ =>
    if lvl = extLevelOf raw then (lvl, 0, false)
    else if count < 2 then (lvl, count + 1, false)
    else (extLevelOf raw, 0, true)

/-- Firings that an EXT edge to a level gives, by EXT_POLARITY (R67). -/
def extFirings (v : Nat → Int) (edge : Bool) (lvl : ExtLevel) : Firings :=
  (edge && (decide (lvl = .high) != decide (v 51 = 1)), edge && (decide (lvl = .low) != decide (v 51 = 1)))

/-- The unit after the EXT filter and the trackers have acted on a sample, and the firings (R66, R64, R65, R67). -/
def Trig.edges (t : Trig) (v : Nat → Int) (code : Nat) (ext : Bool) : Trig × Firings :=
  let x := filterExt t.ext t.extCount ext
  if sourceIsExt v then
    ({ t with ext := x.1, extCount := x.2.1 }, extFirings v x.2.2 x.1)
  else
    let r := trackRising (v 43).toNat (v 44).toNat t.lowSeen code
    let f := trackFalling (v 43).toNat (v 44).toNat t.highSeen code
    ({ t with ext := x.1, extCount := x.2.1, lowSeen := r.1, highSeen := f.1 }, (r.2, f.2))

/-- WIDTH_COND on a width (R69). -/
def widthMet (v : Nat → Int) (w : Nat) : Bool :=
  let lo := (v fidWidthLow).toNat
  let hi := (v fidWidthHigh).toNat
  if v 45 = 0 then decide (w < hi)
  else if v 45 = 1 then decide (lo < w)
  else if v 45 = 2 then decide (lo ≤ w) && decide (w ≤ hi)
  else decide (w < lo) || decide (hi < w)

/-- R68 step 1: an open pulse counts the sample. -/
def Trig.countWidth (t : Trig) : Trig :=
  match t.wstate with
  | .idle => t
  | _ => { t with
      wcount := min Config.widthMax (t.wcount + 1)
      saturated := t.saturated || decide (Config.widthMax ≤ t.wcount) }

/-- This sample has the firing that closes the open pulse (R68). -/
def closes (w : WidthState) (fire : Firings) : Bool :=
  match w with
  | .idle => false
  | .positive => fire.2
  | .negative => fire.1

/-- R68 step 2 with R69: the end edge moves the capture pair. -/
def Trig.endEdge (t : Trig) (fire : Firings) : Trig :=
  if closes t.wstate fire then { t with wstate := .idle, capB := t.capA, capA := t.wcount } else t

/-- R68 step 3: a firing that opens a pulse of a selected polarity (both at once: log 26). -/
def Trig.startEdge (t : Trig) (v : Nat → Int) (fire : Firings) : Trig :=
  if fire.1 && (decide (v 42 = 0) || decide (v 42 = 2)) then
    { t with wcount := 0, saturated := false, wstate := .positive }
  else if fire.2 && (decide (v 42 = 1) || decide (v 42 = 2)) then
    { t with wcount := 0, saturated := false, wstate := .negative }
  else t

/-- The width counter at a sample, after the trackers (R68). -/
def Trig.width (t : Trig) (v : Nat → Int) (fire : Firings) : Trig :=
  (t.countWidth.endEdge fire).startEdge v fire

/-- The sample is a candidate (R65, R69): a firing of the selected slope, or an end edge whose condition is met. `t` is
the unit before the width counter acts. -/
def candidate (t : Trig) (v : Nat → Int) (fire : Firings) : Bool :=
  if v 40 = 0 then
    (fire.1 && (decide (v 42 = 0) || decide (v 42 = 2))) || (fire.2 && (decide (v 42 = 1) || decide (v 42 = 2)))
  else closes t.wstate fire && widthMet v t.countWidth.wcount

/-- Tracking at one kept sample: the EXT filter, the trackers and the width counter in this order (R70), and whether
the sample is a candidate. -/
def Trig.track (t : Trig) (v : Nat → Int) (code : Nat) (ext : Bool) : Trig × Bool :=
  let e := t.edges v code ext
  (e.1.width v e.2, candidate e.1 v e.2)

/-- The tracking state is cleared (R71). -/
def Trig.clearTracking (t : Trig) : Trig :=
  { t with lowSeen := false, highSeen := false, wstate := .idle, wcount := 0, ext := .none, extCount := 0 }

/-- Holdoff cancelled, auto timer stopped, remembered FORCE discarded, tracking cleared: the entry into STOP and an ACQ
change in an active run mode (R71, R72, R74, R77, R81). -/
def Trig.cancel (t : Trig) : Trig := { t.clearTracking with holdoff := 0, autoTimer := none, forced := false }

/-- What taking a trigger does to the trigger unit: HOLDOFF is loaded, the auto timer stops, and the TRIG_OUT pulse
starts when AUX_SOURCE is TRIG_OUT (R72, R73, R79). -/
def Trig.taken (t : Trig) (holdoff aux : Int) : Trig :=
  { t with
    holdoff := holdoff.toNat * 10
    autoTimer := none
    pulse := if aux = 0 then some Config.pulseTicks else t.pulse }

/-- The auto timer starts with an AUTO_TIMEOUT in ms (R74). -/
def Trig.startAuto (t : Trig) (timeout : Int) : Trig := { t with autoTimer := some (timeout.toNat * Config.msTicks) }

/-- The square wave of PROBE_COMP at a base tick count (R79). -/
def probeLevel (tick : BitVec 64) : Bool := decide (tick.toNat % 1000000 < 500000)

/-- The acquisition state is one of those in which a segment is FILLING (R84). -/
def AcqState.fills : AcqState → Bool
  | .pretrig => true
  | .ready => true
  | .posttrig => true
  | _ => false

/-- The AUX output (R79). The square wave's register follows the base tick count (log 32). -/
def State.auxLevel (s : State) : Bool :=
  if s.fieldVal fidAuxSource = 0 then s.trig.pulse.isSome
  else if s.fieldVal fidAuxSource = 1 then s.trig.probe
  else s.acq.state.fills

end Sys2Proof.Machine
end

