-- ==== Sys2Proof/Machine/Acquire.lean ====
section
/-!
DEFINITION. The acquisition controller (05): slot choice, arming, filling, completion, run modes, and the restart that
an ACQ change brings (R13).
-/

namespace Sys2Proof.Machine

/-! ## Slot choice (R85, R88, R90, R91) -/

/-- Two regions of memory, by start and length, have no sample in common. -/
def apart (a la b lb : Nat) : Bool := decide (a + la ≤ b) || decide (b + lb ≤ a)

/-- Slot i is available: record i is FREE, and the slot's region overlaps no segment that is not FREE (R85). -/
def State.available (s : State) (i : Nat) : Bool :=
  decide ((s.seg i).state = .free)
    && s.acq.segs.all fun c => decide (c.2.state = SegState.free)
      || apart (i * s.recordLength) s.recordLength (c.1 * s.acq.segLength c.2) (s.acq.segLength c.2)

/-- The lowest available slot in a range of indices. -/
def State.availableFrom (s : State) (lo hi : Nat) : Option Nat :=
  (List.range hi).find? fun i => decide (lo ≤ i) && s.available i

/-- The next-slot pointer; at or above K it is taken as 0 (R90). -/
def State.pointer (s : State) : Nat := if s.acq.nextSlot < s.slots then s.acq.nextSlot else 0

/-- Step 1 of R90, and the choice of R91: at or after the pointer, and below it in RUN and SINGLE. -/
def State.findSlot (s : State) : Option Nat :=
  match s.availableFrom s.pointer s.slots with
  | some i => some i
  | none => if s.acq.mode = .sequence then none else s.availableFrom 0 s.pointer

/-- The current segment may be reused: its index is below K and it is unheld and not render-pending (R90 step 2). -/
def State.reusable (s : State) (i : Nat) : Bool :=
  decide (i < s.slots) && decide ((s.seg i).holds = 0) && !(s.seg i).pending

/-- Step 2 of R90: in RUN and SINGLE with no slot available, the current segment is freed if it may be reused. -/
def State.reuseCurrent (s : State) : State :=
  if s.acq.mode = .sequence then s
  else
    match s.findSlot, s.acq.currentIdx with
    | none, some i => if s.reusable i then s.freeSeg i else s
    | _, _ => s

/-- R88 step 2: the lowest-numbered entry whose count is 0 is filled with the live values and generation. -/
def State.fillEntry (s : State) : Option (Nat × List Snap) :=
  ((List.range s.acq.snaps.length).find? fun e => decide ((s.acq.snaps.getD e Snap.initial).refs = 0)).map fun e =>
    (e, updateAt s.acq.snaps e fun n => { n with gen := s.setup.gen, vals := s.liveAcq })

/-- The entry a segment's snapshot can have, and the table with it filled (R88 steps 1 to 3). -/
def State.obtain (s : State) : Option (Nat × List Snap) :=
  match s.acq.newest with
  | some e =>
    if (s.acq.snaps.getD e Snap.initial).vals = s.liveAcq then some (e, s.acq.snaps) else s.fillEntry
  | none => s.fillEntry

/-! ## Triggers and filling (R73, R77, R93 to R96) -/

/-- A trigger is taken (R73): POSTTRIG, and the trigger unit's part. -/
def State.takeTrigger (s : State) (auto : Bool) : State :=
  let t := { s with
    trig := s.trig.taken (s.fieldVal 49) (s.fieldVal fidAuxSource)
    acq := { s.acq with state := .posttrig, postCount := 0 } }
  match auto, s.acq.fillingIdx with
  | true, some i => t.setSeg i { t.seg i with auto := true }
  | _, _ => t

/-- The passage to READY: a remembered FORCE is taken; otherwise, with TRIG_MODE AUTO, the auto timer starts (R94,
R77). -/
def State.passToReady (s : State) : State :=
  if s.trig.forced then
    State.takeTrigger { s with trig := { s.trig with forced := false } } false
  else
    { s with
      acq := { s.acq with state := .ready }
      trig := if s.fieldVal fidTrigMode = 0 then s.trig.startAuto (s.fieldVal 50) else s.trig }

/-- The channels that are in FAULT (R56). -/
def FrontEnd.faulted (f : FrontEnd) : List Nat := [1, 2, 3, 4].filter fun n => (f.chan n).fault

/-- Segment i enters FILLING with snapshot entry e of the table `snaps` (R93, R88). -/
def State.enterFilling (s : State) (i e : Nat) (snaps : List Snap) : State :=
  let g : Seg := { Seg.blank with state := .filling, snap := some e }
  let a := { s.acq with snaps := updateAt snaps e fun n => { n with refs := n.refs + 1 }, newest := some e }
  let p := pretrigOf (a.segLength g) (a.snapVal g fidTrigPosition)
  let g := { g with p := p, fault := chanBits ((a.segChannels g).filter s.fe.faulted.contains) }
  let t := { s with
    acq := { a.setSeg i g with
      state := .pretrig
      nextSlot := if i + 1 = s.slots then 0 else i + 1
      fillCount := 0
      postCount := 0
      decim := some 1 }
    trig := s.trig.clearTracking }
  if p = 0 then t.passToReady else t

/-- Slot choice (R90 in RUN and SINGLE, R91 in SEQUENCE): a segment enters FILLING, or the state is WAIT_SEGMENT. -/
def State.slotChoice (s : State) : State :=
  let t := s.reuseCurrent
  match t.findSlot, t.obtain with
  | some i, some (e, snaps) => t.enterFilling i e snaps
  | _, _ => { t with acq := { t.acq with state := .waitSegment } }

/-- An arm: slot choice when the front end is settled, SETTLING otherwise (R84, R89). -/
def State.arm (s : State) : State :=
  if s.feSettled then s.slotChoice else { s with acq := { s.acq with state := .settling } }

/-- The retry of slot choice in WAIT_SEGMENT (R92). -/
def State.retryWait (s : State) : State := if s.acq.state = .waitSegment then s.arm else s

/-- The front-end controller tells of the moment it becomes settled: SETTLING goes on to slot choice (R58, R84). -/
def State.tellSettled (s : State) : State := if s.acq.state = .settling then s.arm else s

/-- What ends every act that may have freed a segment or ended a render: the renderer goes on, and slot choice is
retried (R112, R92; log 27). -/
def State.finishAct (s : State) : State := s.resume.retryWait

/-! ## Run mode (R82, R83, R99 to R101) -/

/-- The run mode changes: RUN_STATE is posted (R82, R106). -/
def State.setMode (s : State) (m : RunMode) : State := { s with acq := { s.acq with mode := m } }.post (.runState m)

/-- Entry into STOP: the filling segment is abandoned, the trigger unit takes the entry, and RUN_STATE is posted (R101,
R82). -/
def State.enterStop (s : State) : State :=
  let t := s.abandonFilling
  State.setMode { t with acq := { t.acq with state := .stopped }, trig := t.trig.cancel } .stop

/-- The run mode leaves STOP: the changed-while-stopped set is emptied (R14, R82). -/
def State.clearChanged (s : State) : State := { s with setup := { s.setup with changed := [] } }

/-- The sequence list is emptied, and each former member that is no longer kept is freed (R83; the count: log 25). -/
def State.emptySequence (s : State) : State :=
  State.freeUnkept { s with acq := { s.acq with seqList := [] } } s.acq.seqList

/-- Sequence start (R100). -/
def State.startSequence (s : State) : State :=
  let t := s.freeUnheld s.acq.usedIdx
  { t with acq := { t.acq with seqList := [], seqCount := 0, nextSlot := 0 } }

/-- RUN or SINGLE from another mode (R83). -/
def State.toActive (s : State) (m : RunMode) : State :=
  if s.acq.mode = .stop then (s.clearChanged.setMode m).emptySequence.resume.arm
  else (s.setMode m).emptySequence.finishAct

/-- SEQUENCE from another mode: from RUN and SINGLE it passes through STOP (R83, R100). -/
def State.toSequence (s : State) : State :=
  let t := if s.acq.mode = .stop then s else s.enterStop
  (t.clearChanged.setMode .sequence).startSequence.resume.arm

/-- A run-control request other than FORCE, by the run mode it finds (table of R83). -/
def State.runControl (s : State) (m : RunMode) : State :=
  if s.acq.mode = m then s
  else
    match m with
    | .stop => s.enterStop
    | .run => s.toActive .run
    | .single => s.toActive .single
    | .sequence => s.toSequence

/-- FORCE that has passed the lock check (R76). -/
def State.force (s : State) : State :=
  match s.acq.state with
  | .pretrig => { s with trig := { s.trig with forced := true } }
  | .ready => s.takeTrigger false
  | _ => s

/-! ## Completion (R96 to R99) -/

/-- The channels of a segment that hold a code 0 or 255 among its N samples (R96). -/
def Acq.overrange (a : Acq) (i : Nat) : List Nat :=
  (a.segChannels (a.seg i)).filter fun n =>
    (List.range (a.segLength (a.seg i))).any fun k =>
      decide (a.sample i n k = 0) || decide (a.sample i n k = 255)

/-- The part of a completion that concerns the segment: counter, record, current (R97 steps 1 to 3). -/
def State.completeSeg (s : State) (i : Nat) : State :=
  let g := s.seg i
  let t := { s with acq := { s.acq with
    counter := s.acq.counter + 1
    segs := Cells.put Seg.blank s.acq.segs i
      { g with state := .complete, seq := s.acq.counter + 1, ovr := chanBits (s.acq.overrange i) }
    decim := none, fillCount := 0, postCount := 0 } }
  t.makeCurrent i

/-- The end of a SINGLE or a SEQUENCE: STOP, with the trigger unit's entry into STOP, and RUN_STATE (R98, R99). -/
def State.endRun (s : State) : State :=
  State.setMode { s with acq := { s.acq with state := .stopped }, trig := s.trig.cancel } .stop

/-- A completed member joins the sequence, which ends or goes on (R99). -/
def State.continueSequence (s : State) (i : Nat) : State :=
  let t := { s with acq := { s.acq with
    seqList := s.acq.seqList ++ [i], seqCount := s.acq.seqCount + 1 } }
  if (t.acq.seqCount : Int) = t.fieldVal fidSegments ∨ t.availableFrom (i + 1) t.slots = none then
    ((t.handOff i).resume.post (.sequenceDone t.acq.seqCount)).endRun
  else t.arm

/-- A segment just made COMPLETE is handed to the render queue in RUN and SINGLE, not in SEQUENCE (R97 step 4). -/
def State.handCompleted (s : State) (i : Nat) : State :=
  if s.acq.mode = .sequence then s else (s.handOff i).resume

/-- A completion up to its notice: the segment, the hand-off, the tracking state cleared, SEGMENT_DONE (R97 steps 1 to
6). -/
def State.announce (s : State) (i : Nat) : State :=
  let g := (s.completeSeg i).seg i
  let t := (s.completeSeg i).handCompleted i
  State.post { t with trig := t.trig.clearTracking } (.segmentDone i g.seq g.auto 0)

/-- Completion of segment i, one act (R97): step 7 is the run mode's continuation (R98, R99). -/
def State.complete (s : State) (i : Nat) : State :=
  match s.acq.mode with
  | .single => (s.announce i).endRun.finishAct
  | .sequence => ((s.announce i).continueSequence i).finishAct
  | _ => (s.announce i).arm.finishAct

/-! ## Samples (R60, R94 to R96) -/

/-- Write the codes of a kept sample at a position of segment i, for each channel its snapshot enables (R93). -/
def State.writeSample (s : State) (i pos : Nat) (codes : List Byte) : State :=
  { s with acq := { s.acq with
    samples := (s.acq.segChannels (s.seg i)).foldl
      (fun m n => Cells.put 0 m (sampleKey n (i * s.acq.segLength (s.seg i) + pos)) (codes.getD (n - 1) 0))
      s.acq.samples } }

/-- A kept sample in POSTTRIG, the trigger sample first (R96). -/
def State.postSample (s : State) (i : Nat) (codes : List Byte) : State :=
  let g := s.seg i
  let len := s.acq.segLength g
  let t := if s.acq.postCount = 0 then s.setSeg i { g with time := s.baseTick } else s
  if len ≤ g.p then t.complete i
  else
    let t := t.writeSample i (g.p + s.acq.postCount) codes
    let t := { t with acq := { t.acq with postCount := s.acq.postCount + 1 } }
    if len - g.p ≤ s.acq.postCount + 1 then t.complete i else t

/-- A kept sample in READY that is not the trigger sample is written over the oldest of the pretrigger part (R95). -/
def State.overwriteOldest (s : State) (i : Nat) (codes : List Byte) : State :=
  let g := s.seg i
  if g.p = 0 then s
  else (s.writeSample i g.wrap codes).setSeg i { g with wrap := (g.wrap + 1) % g.p }

/-- A kept sample in PRETRIG is written at the next position; with the P-th the acquisition passes to READY (R94). -/
def State.pretrigSample (s : State) (i : Nat) (codes : List Byte) : State :=
  let t := s.writeSample i s.acq.fillCount codes
  let t := { t with acq := { t.acq with fillCount := s.acq.fillCount + 1 } }
  if (s.seg i).p ≤ s.acq.fillCount + 1 then t.passToReady else t

/-- Code of the trigger source in a kept sample (R63). -/
def sourceCode (v : Nat → Int) (codes : List Byte) : Nat := (codes.getD (v 41).toNat 0).toNat

/-- The decimator and the trigger unit at a kept sample of segment i (R60, R70). -/
def State.tracked (s : State) (i : Nat) (codes : List Byte) (ext : Bool) : State :=
  let v := s.acq.snapVal (s.seg i)
  { s with
    acq := { s.acq with decim := some (intervalOf (v 32)) }
    trig := if s.acq.state = .posttrig then s.trig else (s.trig.track v (sourceCode v codes) ext).1 }

/-- The kept sample is a candidate that is taken as a trigger in READY: the holdoff counter is 0 (R73). -/
def State.triggers (s : State) (i : Nat) (codes : List Byte) (ext : Bool) : Bool :=
  let v := s.acq.snapVal (s.seg i)
  (s.trig.track v (sourceCode v codes) ext).2 && decide (s.trig.holdoff = 0)

/-- A kept sample reaches the trigger unit and the acquisition controller in one act (R60, R70, R94 to R96). -/
def State.takeSample (s : State) (i : Nat) (codes : List Byte) (ext : Bool) : State :=
  match s.acq.state with
  | .pretrig => (s.tracked i codes ext).pretrigSample i codes
  | .ready =>
    if s.triggers i codes ext then ((s.tracked i codes ext).takeTrigger false).postSample i codes
    else (s.tracked i codes ext).overwriteOldest i codes
  | .posttrig => (s.tracked i codes ext).postSample i codes
  | _ => s

/-- A kept sample, while a segment is FILLING (R60). -/
def State.keptSample (s : State) (codes : List Byte) (ext : Bool) : State :=
  match s.acq.fillingIdx with
  | some i => s.takeSample i codes ext
  | none => s

/-! ## Restart (R13) -/

/-- An ACQ change in an active run mode, up to the arm (R13): the filling segment is abandoned, in SEQUENCE the
unheld members are freed and the sequence begins again, the queue is purged, the rasters are cleared, holdoff, auto
timer and remembered FORCE are cancelled. -/
def State.restart (s : State) : State :=
  let t := s.abandonFilling
  let t := if s.acq.mode = .sequence then
      let u := t.freeUnheld t.acq.seqList
      { u with acq := { u.acq with seqList := [], seqCount := 0, nextSlot := 0 } }
    else t
  let t := t.purge.clearRasters
  { t with acq := { t.acq with state := .settling }, trig := t.trig.cancel }

end Sys2Proof.Machine
end

