-- ==== Sys2Proof/Machine/Change.lean ====
section
/-!
DEFINITION. Applying a validated change (01 R10, R11) and its disposition (R12 to R17, R80, R81), the setup lock (R22 to
R24), and presenting a change from any source.
-/

namespace Sys2Proof.Machine

/-! ## The lock (R22 to R24) -/

/-- A port holds the lock and is not the originator (R23). -/
def State.lockedAgainst (s : State) (o : Orig) : Bool :=
  match s.setup.holder with
  | none => false
  | some h => decide (o ≠ .port h)

/-- The lock ends: holder NONE, LOCAL_DISABLED clear, LOCK_CHANGED posted (R24). -/
def State.endLock (s : State) : State :=
  { s with setup := { s.setup with holder := none, localDisabled := false } }.post (.lockChanged none)

/-! ## Applying (R10, R11) -/

/-- The next generation; it is never 0 (R11). -/
def nextGen (g : BitVec 32) : BitVec 32 := if g = BitVec.allOnes 32 then 1 else g + 1

/-- The fields a change alters, ascending (R10). -/
def State.altered (s : State) (f : Nat → Int) : List Nat :=
  (presentIds s.straps).filter fun i => decide (f i ≠ s.fieldVal i)

/-- The records after the altered ones take their new values (R10). -/
def newRecs (recs : List FieldRec) (f : Nat → Int) (src : Source) (g : BitVec 32) : List FieldRec :=
  recs.map fun r => if f r.id ≠ r.value then { r with value := f r.id, src := src, gen := g } else r

/-- Records and generation of an applied change, and its notices in ascending id order (R10). -/
def State.recordChange (s : State) (src : Source) (f : Nat → Int) : State :=
  State.postAll
    { s with setup := { s.setup with
      recs := newRecs s.setup.recs f src (nextGen s.setup.gen), gen := nextGen s.setup.gen } }
    ((s.altered f).map fun i => .setupChanged i (f i) (nextGen s.setup.gen) src)

/-! ## Disposition (R12 to R17) -/

/-- An altered field is of the class. -/
def hasClass (st : Straps) (ids : List Nat) (c : FieldClass) : Bool := ids.any fun i => decide (classOf st i = some c)

/-- A change of RECORD_LENGTH may lower K: every unheld COMPLETE segment at or above it is freed (R14). -/
def State.freeAboveK (s : State) (ids : List Nat) : State :=
  if ids.contains fidRecordLength then s.freeUnheld (s.acq.usedIdx.filter fun i => decide (s.slots ≤ i)) else s

/-- The channels for which a change requests a front-end update (R12). -/
def updateChannels (st : Straps) (ids : List Nat) : List Nat :=
  ((List.range (channelCount st)).map (· + 1)).filter fun n =>
    ([0, 1, 3, 4] : List Nat).any fun q => ids.contains (chanField n q)

/-- The update requests of a change, and the arbiter (R12, R51, R52; log 11). A change that requests none leaves the front
end as it is. -/
def State.requestUpdates (s : State) (ids : List Nat) : State :=
  if updateChannels s.straps ids = [] then s
  else State.feArbitrate { s with fe := s.fe.request (updateChannels s.straps ids) }

/-- An ACQ change in STOP: the altered ACQ fields join the changed-while-stopped set (R14). -/
def State.markChanged (s : State) (ids : List Nat) : State :=
  { s with setup := { s.setup with
    changed := s.setup.changed ++ ids.filter fun i =>
      decide (classOf s.straps i = some FieldClass.acq) && !s.setup.changed.contains i } }

/-- The run mode is not STOP. -/
def State.active (s : State) : Bool := decide (s.acq.mode ≠ .stop)

/-- An ACQ change: a restart in an active run mode, marks in STOP (R13, R14). -/
def State.disposeAcq (s : State) (ids : List Nat) : State :=
  if hasClass s.straps ids .acq then (if s.active then s.restart else s.markChanged ids) else s

/-- The current segment is queued for render, if there is one (R16). -/
def State.requeueCurrent (s : State) : State :=
  match s.acq.currentIdx with
  | some i => s.handOff i
  | none => s

/-- A VIEW change: rasters cleared, render abandoned, and the current segment queued unless the union holds ACQ and the
run mode is active (R12, R16). -/
def State.disposeView (s : State) (ids : List Nat) : State :=
  if hasClass s.straps ids .view then
    (if hasClass s.straps ids .acq && s.active then s.clearRasters else s.clearRasters.requeueCurrent)
  else s

/-- A change of TRIG_MODE acts at once in READY (R15). -/
def State.disposeTrigMode (s : State) (ids : List Nat) : State :=
  if ids.contains fidTrigMode = true ∧ s.acq.state = .ready then
    { s with trig := if s.fieldVal fidTrigMode = 0 then s.trig.startAuto (s.fieldVal 50)
        else { s.trig with autoTimer := none } }
  else s

/-- A change of AUX_SOURCE switches the output at once (R17, R80). -/
def State.disposeAux (s : State) (ids : List Nat) : State :=
  if ids.contains fidAuxSource then
    { s with trig := { s.trig with
      pulse := none
      probe := if s.fieldVal fidAuxSource = 1 then probeLevel s.baseTick else s.trig.probe } }
  else s

/-- The end of the act: the renderer goes on, and the acquisition re-arms after a restart or retries slot choice. A change
of TIMING and PANEL fields alone reaches neither (R15, R17). -/
def State.disposeEnd (s : State) (ids : List Nat) : State :=
  if hasClass s.straps ids .acq && s.active then s.resume.arm
  else if hasClass s.straps ids .acq || hasClass s.straps ids .view then s.finishAct
  else s

/-- Disposition of a change by its altered fields (R12; the order within the act: logs 15 and 27). -/
def State.dispose (s : State) (ids : List Nat) : State :=
  ((((((s.freeAboveK ids).requestUpdates ids).disposeAcq ids).disposeView ids).disposeTrigMode ids).disposeAux
    ids).disposeEnd ids

/-- Apply the values a change leaves: nothing where no field differs (R10). -/
def State.applyValues (s : State) (src : Source) (f : Nat → Int) : State :=
  if s.altered f = [] then s else (s.recordChange src f).dispose (s.altered f)

/-- Completion of an applied or unaltering change (R10). -/
def changeCode (altered : List Nat) (clamped : Bool) : Code := if altered = [] then .ok else if clamped then .clamped else .ok

/-- Present a change that is not a recall, the lock apart: refused with a code and a field id, or the state it leaves
and its completion (R6 to R10). -/
def State.change (s : State) (src : Source) (pairs : List (Nat × Int)) : Except (Code × Nat) (State × Code) :=
  match validate s.straps s.fieldVal pairs with
  | .error e => .error e
  | .ok (f, clamped) => .ok (s.applyValues src f, changeCode (s.altered f) clamped)

/-- The pairs of DEFAULT_SETUP and of the DEFAULT key (R21). -/
def defaultPairs (st : Straps) : List (Nat × Int) := (savedIds st).map fun i => (i, dfltOf st i)

/-- Present the recall of a slot's pairs, the lock apart (R9, R10). -/
def State.recallSetup (s : State) (pairs : List (Nat × Int)) : State × Code :=
  let c := recallChange s.straps s.fieldVal pairs
  (s.applyValues .recall c.1, changeCode (s.altered c.1) c.2)

end Sys2Proof.Machine
end

