-- ==== Sys2Proof/Machine/Operands.lean ====
section
/-!
DEFINITION. How the part reads what the words of a request hold (10.3, 10.4; R183 to R185): request kinds with their
parameter counts, id/value pairs, segment references, map entries, pixels.
-/

namespace Sys2Proof.Machine

/-! ## Request kinds (table 10.4) -/

def kindIdentify : BitVec 8 := 0x01
def kindGetNotices : BitVec 8 := 0x02
def kindSetAttention : BitVec 8 := 0x03
def kindSetupRead : BitVec 8 := 0x10
def kindSetupWrite : BitVec 8 := 0x11
def kindSetupExchange : BitVec 8 := 0x12
def kindDefaultSetup : BitVec 8 := 0x13
def kindLock : BitVec 8 := 0x14
def kindUnlock : BitVec 8 := 0x15
def kindWriteKeymap : BitVec 8 := 0x20
def kindWriteKnobmap : BitVec 8 := 0x21
def kindWriteLedmap : BitVec 8 := 0x22
def kindBeep : BitVec 8 := 0x23
def kindTriggerStatus : BitVec 8 := 0x30
def kindRunControl : BitVec 8 := 0x31
def kindHold : BitVec 8 := 0x32
def kindRelease : BitVec 8 := 0x33
def kindReadWaveform : BitVec 8 := 0x34
def kindSegmentInfo : BitVec 8 := 0x35
def kindShowSegment : BitVec 8 := 0x36
def kindClearDisplay : BitVec 8 := 0x40
def kindWriteOverlay : BitVec 8 := 0x41
def kindFillOverlay : BitVec 8 := 0x42
def kindWritePalette : BitVec 8 := 0x43
def kindReadScreen : BitVec 8 := 0x44
def kindSaveSetup : BitVec 8 := 0x50
def kindRecallSetup : BitVec 8 := 0x51
def kindEraseSetup : BitVec 8 := 0x52
def kindSetStartup : BitVec 8 := 0x53
def kindListSetups : BitVec 8 := 0x54
def kindSetClock : BitVec 8 := 0x55

/-- The kinds with the one parameter count each takes (table 10.4); SETUP_WRITE and WRITE_PALETTE take several. -/
def fixedCounts : List (BitVec 8 × Nat) :=
  [(kindIdentify, 0), (kindGetNotices, 1), (kindSetAttention, 2), (kindSetupRead, 2), (kindSetupExchange, 3),
   (kindDefaultSetup, 0), (kindLock, 1), (kindUnlock, 0), (kindWriteKeymap, 2), (kindWriteKnobmap, 2),
   (kindWriteLedmap, 2), (kindBeep, 2), (kindTriggerStatus, 0), (kindRunControl, 1), (kindHold, 1),
   (kindRelease, 1), (kindReadWaveform, 6), (kindSegmentInfo, 1), (kindShowSegment, 1), (kindClearDisplay, 0),
   (kindWriteOverlay, 4), (kindFillOverlay, 5), (kindReadScreen, 0), (kindSaveSetup, 18), (kindRecallSetup, 1),
   (kindEraseSetup, 1), (kindSetStartup, 1), (kindListSetups, 0), (kindSetClock, 2)]

/-- A good frame names a request and carries a parameter count its kind takes: otherwise it is answered BAD_REQUEST
(R166, R184, R185; WRITE_PALETTE: log 28). -/
def frameTaken (kind : BitVec 8) (params : List Word) : Bool :=
  if kind = kindSetupWrite then decide (params.length % 3 = 2 ∧ params.length ≤ 62)
  else if kind = kindWritePalette then
    decide (2 ≤ params.length ∧ (params.getD 1 0).toNat = params.length - 2)
  else fixedCounts.any fun e => e.1 == kind && e.2 == params.length

/-! ## Parameters -/

/-- Parameter word i. -/
def par (ws : List Word) (i : Nat) : Word := ws.getD i 0

/-- Parameter word i as a number. -/
def parNat (ws : List Word) (i : Nat) : Nat := (par ws i).toNat

/-- Parameter words i and i + 1 as a 32-bit quantity. -/
def par32 (ws : List Word) (i : Nat) : BitVec 32 := join32 (par ws i) (par ws (i + 1))

/-- Parameter words i and i + 1 as a field value. -/
def parValue (ws : List Word) (i : Nat) : Int := valueOf (par ws i) (par ws (i + 1))

/-- Id/value pairs, three words each. -/
def readPairs : List Word → List (Nat × Int)
  | id :: hi :: lo :: ws => (id.toNat, valueOf hi lo) :: readPairs ws
  | _ => []

/-- A segment named in a request (R184): CURRENT, an index 0..1999, or an index above 1999. -/
inductive SegRef
  | current
  | index (i : Nat)
  | above
deriving DecidableEq, Repr

/-- Read a segment reference. -/
def segRef (w : Word) : SegRef :=
  if w = 0xFFFF then .current else if w.toNat < Config.maxSegments then .index w.toNat else .above

/-! ## Map entries (10.3, R47) -/

/-- The field selector of a SET_FIELD entry, if it is valid (R184, R47). -/
def readSelector (w : Word) : Option FieldRef :=
  if w.msb then (if (w.toNat - 32768) ≤ 6 then some (.front (w.toNat - 32768)) else none)
  else if w.toNat ≤ 127 then some (.id w.toNat) else none

/-- A number within limits. -/
def within (lo hi n : Nat) : Option Nat := if lo ≤ n ∧ n ≤ hi then some n else none

/-- A key map entry of 4 words, if it is valid (R47). -/
def readKeyEntry (w0 w1 w2 w3 : Word) : Option KeyAction :=
  match w0.toNat with
  | 0 => some .none
  | 1 => some .report
  | 2 => some .runStop
  | 3 => some .single
  | 4 => some .sequence
  | 5 => some .force
  | 6 => some .clear
  | 7 => some .dflt
  | 8 => (within 1 16 w1.toNat).map .recall
  | 9 => (within 1 16 w1.toNat).map .save
  | 10 => (within 1 4 w1.toNat).map .channel
  | 11 => (readSelector w1).map fun f => .setField f (valueOf w2 w3)
  | 12 => some .localKey
  | _ => none

/-- A knob entry's target, if it is valid. -/
def readTarget (w0 w1 : Word) : Option KnobTarget :=
  match w0.toNat with
  | 0 => some .report
  | 1 => (within 0 127 w1.toNat).map .fixed
  | 2 => (within 0 6 w1.toNat).map .front
  | _ => none

/-- A step within -1000..1000, whatever the target (log 29). -/
def readStep (w : Word) : Option Int := if -1000 ≤ w.toInt ∧ w.toInt ≤ 1000 then some w.toInt else none

/-- A knob map entry of 4 words, if it is valid (R47). -/
def readKnobEntry (w0 w1 w2 w3 : Word) : Option KnobEntry :=
  match readTarget w0 w1, readStep w2, readStep w3 with
  | some t, some a, some b => some ⟨t, a, b⟩
  | _, _, _ => none

/-- The run mode of a code (R184). -/
def runModeOf (n : Nat) : Option RunMode :=
  match n with
  | 0 => some .stop
  | 1 => some .run
  | 2 => some .single
  | 3 => some .sequence
  | _ => none

/-- An LED entry's source, if it is valid. -/
def readLedSource (code : Nat) (w1 w2 w3 : Word) : Option LedSource :=
  match code with
  | 0 => some .off
  | 1 => some .on
  | 2 => (within 0 127 w1.toNat).map fun i => .fieldEq i (valueOf w2 w3)
  | 3 => (within 1 4 w1.toNat).map .frontIs
  | 4 => (runModeOf w1.toNat).map .runMode
  | 5 => some .acqReady
  | 6 => some .locked
  | _ => none

/-- An LED map entry of 4 words, if it is valid (R47). -/
def readLedEntry (w0 w1 w2 w3 : Word) : Option LedEntry :=
  (readLedSource (w0.toNat % 32768) w1 w2 w3).map fun src => ⟨src, w0.msb⟩

/-- The staged entries of a map write, each valid or not (R47 step 4). -/
def readEntries {α : Type} (f : Word → Word → Word → Word → Option α) : List Word → List (Option α)
  | a :: b :: c :: d :: ws => f a b c d :: readEntries f ws
  | _ => []

/-! ## Data in -/

/-- Data words a staged DATA_IN request needs (R170): 4 for a map entry, one for four overlay pixels. -/
def dataNeed (r : Staged) : Nat :=
  if r.kind = kindWriteOverlay then (parNat r.params 2 * parNat r.params 3 + 3) / 4 else parNat r.params 1 * 4

end Sys2Proof.Machine
end

