-- ==== Sys2Proof/Machine/Store.lean ====
section
/-!
DEFINITION. The setup store (08): records in flash, the directory, the stages of its operations, and what a power-on
reset leaves of a sector.
-/

namespace Sys2Proof.Machine

/-! ## Flash (R148, R149) -/

/-- What an erased word reads as, and what an unlisted word of the flash reads as (R146). -/
def erasedWord : Word := 0xFFFF

/-- Key of a word of a sector, 1..17. -/
def flashKey (sector w : Nat) : Nat := sector * Config.sectorWords + w

/-- Sector of the startup record (R148). -/
def startupSector : Nat := 17

/-- A word of a sector as it is read: an upset word comes out otherwise (log 13). -/
def readFlash (m : Cells Word) (upset : FlashUpset) (sector w : Nat) : Word :=
  match upset.find? fun u => u.1 == w with
  | some u => u.2
  | none => Cells.get erasedWord m (flashKey sector w)

/-- The words of a sector as they are read. -/
def readSector (m : Cells Word) (upset : FlashUpset) (sector : Nat) : List Word :=
  (List.range Config.sectorWords).map fun w => readFlash m upset sector w

/-- Words of a sector that come out otherwise than they were written (log 13). -/
def applyUpset (m : Cells Word) (sector : Nat) (upset : FlashUpset) : Cells Word :=
  upset.foldl (fun m u => if u.1 < Config.sectorWords then Cells.put erasedWord m (flashKey sector u.1) u.2 else m) m

/-- A sector erased: every word 0xFFFF (R154). -/
def eraseSector (m : Cells Word) (sector : Nat) : Cells Word :=
  m.filter fun c => !(decide (flashKey sector 0 ≤ c.1) && decide (c.1 < flashKey (sector + 1) 0))

/-- Record words programmed from the first word of a sector (R154). -/
def programWords (m : Cells Word) (sector : Nat) (ws : List Word) : Cells Word :=
  Cells.putRun erasedWord m (flashKey sector 0) ws

/-! ## Records (R148, R149, R187) -/

/-- Field count of the record in a sector's words. -/
def recordCount (ws : List Word) : Nat := (ws.getD 14 0).toNat

/-- The sector of slot n holds a good record (R148). -/
def goodRecord (n : Nat) (ws : List Word) : Bool :=
  decide (ws.getD 0 0 = 1) && decide ((ws.getD 1 0).toNat = n) && decide (recordCount ws ≤ 128)
    && decide (crcOf (ws.take (15 + 3 * recordCount ws)) = ws.getD (15 + 3 * recordCount ws) 0)

/-- The startup sector holds a good record (R149). -/
def goodStartup (ws : List Word) : Bool :=
  decide (ws.getD 0 0 = 1) && decide ((ws.getD 1 0).toNat ≤ 16) && decide (crcOf (ws.take 2) = ws.getD 2 0)

/-- The first pair for each id (R156). -/
def firstPairs (ps : List (Nat × Int)) : List (Nat × Int) :=
  ps.foldl (fun acc p => if acc.any (fun q => q.1 == p.1) then acc else acc ++ [p]) []

/-- The pairs of a record (R187) that a recall presents: the first for each id (R156). -/
def recordPairs (ws : List Word) : List (Nat × Int) :=
  firstPairs (readPairs ((ws.drop 15).take (3 * recordCount ws)))

/-- The directory entry of a good record (R150). -/
def recordEntry (ws : List Word) : DirEntry :=
  ⟨.valid, (ws.drop 2).take 8, join32 (ws.getD 10 0) (ws.getD 11 0), ws.getD 12 0, ws.getD 13 0, ws.getD 14 0⟩

/-- The entry of a sector that holds neither a good record nor an erased first word (R150). -/
def corruptEntry : DirEntry := { DirEntry.initial with state := .corrupt }

/-- The entry a scan read forms (R151). -/
def scanEntry (n : Nat) (ws : List Word) : DirEntry :=
  if ws.getD 0 0 = erasedWord then DirEntry.initial
  else if goodRecord n ws then recordEntry ws
  else corruptEntry

/-- The startup slot a scan read finds (R149, R151). -/
def scanStartup (ws : List Word) : Nat := if goodStartup ws then (ws.getD 1 0).toNat else 0

/-- The words of a save's record before its CRC word (R153, R187). -/
def recordWords (slot : Nat) (name : List Word) (clock : BitVec 32) (source channels : Nat)
    (pairs : List (Nat × Int)) : List Word :=
  [1, word slot] ++ name ++ words32 clock ++ [word source, word channels, word pairs.length]
    ++ pairs.flatMap fun p => word p.1 :: wordsValue p.2

/-! ## Names (R153, R32) -/

/-- The characters of name words: two a word, the first in bits 15..8 (R181). -/
def nameChars (ws : List Word) : List (BitVec 8) := ws.flatMap fun w => [w.extractLsb' 8 8, w.extractLsb' 0 8]

/-- A character of the printable set 0x20..0x7E. -/
def printable (c : BitVec 8) : Bool := decide (32 ≤ c.toNat) && decide (c.toNat ≤ 126)

/-- 16 characters packed two a word. -/
def packName : List (BitVec 8) → List Word
  | a :: b :: cs => (a ++ b) :: packName cs
  | _ => []

/-- The name of a record: the first 16 characters, others than printable replaced by "?", padded with spaces (R153). -/
def formName (cs : List (BitVec 8)) : List Word :=
  packName (((cs.take 16).map fun c => if printable c then c else 0x3F) ++ List.replicate (16 - cs.length) 0x20)

/-- The name was cut or a character replaced (R153). -/
def nameAltered (cs : List (BitVec 8)) : Bool := decide (16 < cs.length) || (cs.take 16).any fun c => !printable c

/-- "SLOT nn" (R32). -/
def panelName (slot : Nat) : List (BitVec 8) :=
  [0x53, 0x4C, 0x4F, 0x54, 0x20, BitVec.ofNat 8 (48 + slot / 10), BitVec.ofNat 8 (48 + slot % 10)]

/-! ## Accepting operations (R147, R153 to R158) -/

/-- Directory entry of slot 1..16. -/
def Store.entry (t : Store) (n : Nat) : DirEntry := t.dir.getD (n - 1) DirEntry.initial

/-- Set the directory entry of slot 1..16. -/
def Store.setEntry (t : Store) (n : Nat) (e : DirEntry) : Store := { t with dir := updateAt t.dir (n - 1) fun _ => e }

/-- Begin an operation whose first stage is ERASING. -/
def Store.beginErase (t : Store) (op : StoreOp) (buffer : List Word) : Store :=
  { t with state := .erasing, op := some op, marked := false, buffer := buffer }

/-- Begin a recall: READING. The sector's words come in at the read's end (log 39). -/
def Store.beginRead (t : Store) (op : StoreOp) : Store := { t with state := .reading, op := some op, buffer := [] }

/-- Source code of a save's record (R148). -/
def StoreOrig.number : StoreOrig → Nat
  | .port .a => 0
  | .port .b => 1
  | _ => 2

/-- Accept a save: capture the saved fields, the clock, the strap, the source and the name, and enter ERASING (R153). -/
def State.acceptSave (s : State) (slot : Nat) (name : List (BitVec 8)) (o : StoreOrig) (key : Bool) : State :=
  let pairs := (savedIds s.straps).map fun i => (i, s.fieldVal i)
  let record := recordWords slot (formName name) s.store.clock o.number (channelCount s.straps) pairs
  { s with store := s.store.beginErase ⟨.save, some slot, o, key⟩ record }

/-- Accept a recall (R155). -/
def State.acceptRecall (s : State) (slot : Nat) (o : StoreOrig) (key : Bool) : State :=
  { s with store := s.store.beginRead ⟨.recall, some slot, o, key⟩ }

/-- Accept an erase (R157). -/
def State.acceptErase (s : State) (slot : Nat) (o : StoreOrig) : State :=
  { s with store := s.store.beginErase ⟨.erase, some slot, o, false⟩ [] }

/-- Accept a startup write (R158). -/
def State.acceptStartup (s : State) (slot : Nat) (o : StoreOrig) : State :=
  { s with store := s.store.beginErase ⟨.startup, some slot, o, false⟩ [1, word slot] }

/-! ## Stages (R151, R154, R156 to R158) -/

/-- The operation's setup slot as a number; 0 where it has none. -/
def StoreOp.slotNum (op : StoreOp) : Nat := op.slot.getD 0

/-- Sector a write or a recall works on. The scan goes from sector to sector by scanAt (R151). -/
def StoreOp.sector (op : StoreOp) : Nat := if op.kind = .startup then startupSector else op.slotNum

/-- The record an operation programs: its buffer and the CRC word last (R154). -/
def programRecord (buffer : List Word) : List Word := buffer ++ [crcOf buffer]

/-- The buffer is emptied, the operation record removed, the state IDLE (R154, R156). -/
def Store.finish (t : Store) : Store := { t with state := .idle, op := none, marked := false, buffer := [] }

/-- The last event of an operation: STORE_DONE, and the error beep where a key started it and it failed (R161, R162). -/
def State.endOp (s : State) (op : StoreOp) (code : Code) : State :=
  let t := State.post { s with store := s.store.finish } (.storeDone op.kind op.slotNum code)
  if op.key = true ∧ code ≠ .ok ∧ code ≠ .clamped then t.errorBeep else t

/-- The code and the store a verify leaves, from the words read back (R154, R157, R158). -/
def verifyResult (t : Store) (op : StoreOp) (ws : List Word) : Store × Code :=
  match op.kind with
  | .erase =>
    if ws.all (· == erasedWord) then (t.setEntry op.slotNum DirEntry.initial, .ok)
    else (t.setEntry op.slotNum corruptEntry, .writeFailed)
  | .startup =>
    if goodStartup ws then ({ t with startup := op.slotNum }, .ok) else ({ t with startup := 0 }, .writeFailed)
  | _ =>
    if goodRecord op.slotNum ws then (t.setEntry op.slotNum (recordEntry ws), .ok)
    else (t.setEntry op.slotNum corruptEntry, .writeFailed)

/-- The second lock check of a recall refuses it (R152, R156). -/
def State.recallLocked (s : State) (o : StoreOrig) : Bool :=
  match o with
  | .port p => s.lockedAgainst (.port p)
  | _ => s.lockedAgainst .panel

/-- The end of a recall's read (R156), with the sector's words as they were read. -/
def State.endRecall (s : State) (op : StoreOp) (ws : List Word) : State :=
  if goodRecord op.slotNum ws = false then
    State.endOp { s with store := s.store.setEntry op.slotNum corruptEntry } op .slotCorrupt
  else if s.recallLocked op.orig then s.endOp op .locked
  else (s.recallSetup (recordPairs ws)).1.endOp op (s.recallSetup (recordPairs ws)).2

/-- The power-on scan begins: the store takes its operation record, of kind SCAN and without a setup slot (R147, R151; the
moment, the originator and the key: log 24). -/
def Store.beginScan (t : Store) : Store :=
  if t.state = .scanning ∧ t.op = none then { t with op := some ⟨.scan, none, .start, false⟩ } else t

/-- The power-on scan begins where it has not begun. -/
def State.beginScan (s : State) : State := { s with store := s.store.beginScan }

/-- The end of the scan: its record is removed, the start-up recall begins where the startup slot's entry is VALID, and
the store is IDLE otherwise (R147, R151, R152). -/
def Store.endScan (t : Store) : Store :=
  if t.startup ≠ 0 ∧ (t.entry t.startup).state = .valid then t.beginRead ⟨.recall, some t.startup, .start, false⟩
  else { t with state := .idle, op := none }

/-- The end of a sector read of the scan (R151). -/
def Store.scanRead (t : Store) (ws : List Word) : Store :=
  if t.scanAt < startupSector then
    { t.setEntry t.scanAt (scanEntry t.scanAt ws) with scanAt := t.scanAt + 1 }
  else Store.endScan { t with startup := scanStartup ws }

/-! ## Power cut (R163) -/

/-- What a power-on reset leaves in flash of an operation in flight (table of R163; logs 14 and 23). -/
def cutFlash (t : Store) (written : Nat) (upset : FlashUpset) : Cells Word :=
  match t.state, t.op with
  | .erasing, some op =>
    if t.marked then
      Cells.put erasedWord (applyUpset t.flash op.sector upset) (flashKey op.sector 0) 0
    else t.flash
  | .programming, some op => programWords t.flash op.sector (t.buffer.take written)
  | _, _ => t.flash

end Sys2Proof.Machine
end

