-- ==== Sys2Proof/Machine/Panel.lean ====
section
/-!
DEFINITION. The panel scanner (02): debounce, encoder decoders, key actions, knob edits, LEDs, and the events a scan
yields; with the meanings of the panel's commands.
-/

namespace Sys2Proof.Machine

/-! ## Scanning (R26, R27, R38) -/

/-- A key's debounce record at a raw level: the record after, and whether the change is accepted (R27). -/
def KeyRec.scan (k : KeyRec) (raw : Bool) : KeyRec × Bool :=
  if raw = k.pressed then (⟨k.pressed, 0⟩, false)
  else if k.count < 2 then (⟨k.pressed, k.count + 1⟩, false)
  else (⟨raw, 0⟩, true)

/-- Place of a line state (A, B) in the clockwise sequence 00, 01, 11, 10 (R38). -/
def linePlace (l : Bool × Bool) : Nat :=
  match l with
  | (false, false) => 0
  | (false, true) => 1
  | (true, true) => 2
  | (true, false) => 3

/-- The partial count after a transition: a reversal starts again at one step (R38). -/
def stepPart (part : Int) (cw : Bool) : Int :=
  if cw then (if part < 0 then 1 else part + 1) else (if 0 < part then -1 else part - 1)

/-- The direction of the transition between two line states, if it is one step. -/
def transition (old new : Bool × Bool) : Option Bool :=
  match (linePlace new + 4 - linePlace old) % 4 with
  | 1 => some true
  | 3 => some false
  | _ => none

/-- An encoder's decoder record at a sample of its lines: the record after, and the detent it yields (R38). -/
def EncRec.scan (e : EncRec) (lines : Bool × Bool) : EncRec × Option Bool :=
  let e1 := { e with ref := some lines, ticks := min 41 (e.ticks + 1) }
  match e.ref.bind (transition · lines) with
  | none => (e1, none)
  | some cw =>
    let p := stepPart e.part cw
    if p = 4 ∨ p = -4 then ({ e1 with part := 0 }, some cw) else ({ e1 with part := p }, none)

/-- The debounce records after a scan: keys beyond the variant keep theirs (R26). -/
def scanKeys (n : Nat) (raw : BitVec 64) (ks : List KeyRec) : List KeyRec :=
  ks.mapIdx fun i k => if i < n then (k.scan (raw.getLsbD i)).1 else k

/-- The presses and releases a scan accepts, in key order. -/
def keyEvents (n : Nat) (raw : BitVec 64) (ks : List KeyRec) : List PanelEvent :=
  (ks.mapIdx fun i k =>
    if i < n ∧ (k.scan (raw.getLsbD i)).2 = true then
      some (if raw.getLsbD i then PanelEvent.press i else PanelEvent.release i)
    else none).filterMap id

/-- The decoder records after a scan (R26, R38). -/
def scanEncs (n : Nat) (a b : BitVec 8) (es : List EncRec) : List EncRec :=
  es.mapIdx fun i e => if i < n then (e.scan (a.getLsbD i, b.getLsbD i)).1 else e

/-- The detents a scan yields, in encoder order. -/
def encEvents (n : Nat) (a b : BitVec 8) (es : List EncRec) : List PanelEvent :=
  (es.mapIdx fun i e =>
    if i < n then (e.scan (a.getLsbD i, b.getLsbD i)).2.map (PanelEvent.detent i) else none).filterMap id

/-! ## Key actions (R28 to R36) -/

/-- A panel change, source and pairs: refused under either port's lock or by validation, with the error beep (R36). -/
def State.panelChange (s : State) (src : Source) (pairs : List (Nat × Int)) : State :=
  if s.lockedAgainst .panel then s.errorBeep
  else
    match s.change src pairs with
    | .error _ => s.errorBeep
    | .ok (t, _) => t

/-- The field a reference names now (R25). -/
def State.resolve (s : State) : FieldRef → Nat
  | .id n => n
  | .front q => chanField (s.fieldVal fidFront).toNat q

/-- The change of CHANNEL(n) (R33). -/
def State.channelPairs (s : State) (n : Nat) : List (Nat × Int) :=
  if s.fieldVal (chanField n 0) = 1 then
    if s.fieldVal fidFront = n then
      let other := ((enabledUnder s.straps s.fieldVal).find? fun m => m != n).getD n
      [(chanField n 0, 0), (fidFront, (other : Int))]
    else [(fidFront, (n : Int))]
  else [(chanField n 0, 1), (fidFront, (n : Int))]

/-- A run-control request from the panel (R30). -/
def State.panelRun (s : State) (f : State → State) : State := if s.lockedAgainst .panel then s.errorBeep else f s

/-- The raster clear of CLEAR_DISPLAY and of the CLEAR key (R125, R31). -/
def State.clearDisplay (s : State) : State := s.clearRasters.finishAct

/-- RECALL(slot) from the panel (R32, R155). -/
def State.panelRecall (s : State) (slot : Nat) : State :=
  if s.lockedAgainst .panel = true ∨ s.store.state ≠ .idle ∨ (s.store.entry slot).state ≠ .valid then s.errorBeep
  else s.acceptRecall slot .panel true

/-- SAVE(slot) from the panel (R32, R162). -/
def State.panelSave (s : State) (slot : Nat) : State :=
  if s.store.state ≠ .idle then s.errorBeep else s.acceptSave slot (panelName slot) .panel true

/-- LOCAL (R35). -/
def State.panelLocal (s : State) : State :=
  match s.setup.holder with
  | none => s
  | some _ => if s.setup.localDisabled then s.errorBeep else s.endLock

/-- Take a key action on a press of key `k` (section 2.2). -/
def State.keyAction (s : State) (k : Nat) : KeyAction → State
  | .none => s
  | .report => s.post (.panelKey k true)
  | .runStop => s.panelRun fun s => s.runControl (if s.acq.mode = .stop then .run else .stop)
  | .single => s.panelRun fun s => s.runControl .single
  | .sequence => s.panelRun fun s => s.runControl .sequence
  | .force => s.panelRun State.force
  | .clear => s.panelRun State.clearDisplay
  | .dflt => s.panelChange .dflt (defaultPairs s.straps)
  | .recall slot => s.panelRecall slot
  | .save slot => s.panelSave slot
  | .channel n => if channelCount s.straps < n then s.errorBeep else s.panelChange .panel (s.channelPairs n)
  | .setField f v => s.panelChange .panel [(s.resolve f, v)]
  | .localKey => s.panelLocal

/-- An event that a scan yielded waits no longer. -/
def State.undue (s : State) (e : PanelEvent) : State := { s with panel := { s.panel with due := s.panel.due.erase e } }

/-- Key map entry of a key. -/
def Panel.keyEntry (p : Panel) (k : Nat) : KeyAction := p.keymap.getD k .none

/-- An accepted press is taken: the click, then the action of the key map entry as it stands (R28). A key that is not
scanned has no press. -/
def State.takePress (s : State) (key : Nat) : State :=
  if key < keysScanned s.straps then ((s.undue (.press key)).click).keyAction key (s.panel.keyEntry key)
  else s.undue (.press key)

/-- An accepted release is taken: a PANEL_KEY release notice where the entry is REPORT (R28, R29). -/
def State.takeRelease (s : State) (key : Nat) : State :=
  if key < keysScanned s.straps ∧ s.panel.keyEntry key = .report then
    (s.undue (.release key)).post (.panelKey key false)
  else s.undue (.release key)

/-- KEY_PRESS (R28). -/
def execKeyPress (key : Nat) (s : State) : Host.Outcome State Fault Refusal := .next (s.takePress key)

/-- KEY_RELEASE (R28, R29). -/
def execKeyRelease (key : Nat) (s : State) : Host.Outcome State Fault Refusal := .next (s.takeRelease key)

/-! ## Knobs (R39 to R42) -/

/-- A detent is fast (R40). -/
def EncRec.isFast (e : EncRec) (cw : Bool) : Bool := decide (cw = e.lastCw) && decide (e.ticks ≤ 40)

/-- The decoder record after a detent is taken (R40). -/
def EncRec.detent (e : EncRec) (cw : Bool) : EncRec :=
  { e with fast := if e.isFast cw then min 255 (e.fast + 1) else 0, lastCw := cw, ticks := 0 }

/-- The step a detent uses, from the record updated for it (R40). -/
def KnobEntry.stepFor (k : KnobEntry) (e : EncRec) : Int := if 4 ≤ e.fast then k.accel else k.step

/-- Place of a code among a field's members. -/
def placeOf (codes : List Int) (v : Int) : Nat := codes.findIdx (· == v)

/-- The value a field edit presents (R41): `d` is step times direction; TRIG_SOURCE wraps. -/
def editValue (st : Straps) (id : Nat) (cur d : Int) : Int :=
  match fieldSpec st id with
  | some ⟨_, .enum codes, _⟩ =>
    let target := (placeOf codes cur : Int) + d
    let place := if id = 41 then target % (codes.length : Int) else clampInt 0 ((codes.length : Int) - 1) target
    codes.getD place.toNat cur
  | _ => cur + d

/-- A field edit from a knob (R41). -/
def State.knobEdit (s : State) (id : Nat) (d : Int) : State :=
  s.panelChange .panel [(id, editValue s.straps id (s.fieldVal id) d)]

/-- Direction of a detent. -/
def direction (cw : Bool) : Int := if cw then 1 else -1

/-- Decoder record of an encoder. -/
def Panel.enc (p : Panel) (e : Nat) : EncRec := p.encs.getD e EncRec.initial

/-- Knob map entry of an encoder. -/
def Panel.knob (p : Panel) (e : Nat) : KnobEntry := p.knobmap.getD e ⟨.report, 0, 0⟩

/-- The decoder record of an encoder takes a detent. -/
def State.countDetent (s : State) (e : Nat) (cw : Bool) : State :=
  { s with panel := { s.panel with encs := updateAt s.panel.encs e fun r => r.detent cw } }

/-- A detent as its knob map entry says (R39, R41, R42); `r` is the record updated for it. -/
def State.knobAction (s : State) (e : Nat) (cw : Bool) (k : KnobEntry) (r : EncRec) : State :=
  match k.target with
  | .report => s.post (.panelKnob e (direction cw))
  | .fixed id => s.knobEdit id (k.stepFor r * direction cw)
  | .front q => s.knobEdit (s.resolve (.front q)) (k.stepFor r * direction cw)

/-- A detent is taken (R40): the record is updated, and the detent is a field edit or a PANEL_KNOB count. An encoder that
is not scanned yields none. -/
def State.takeDetent (s : State) (enc : Nat) (clockwise : Bool) : State :=
  if enc < encodersScanned s.straps then
    ((s.undue (.detent enc clockwise)).countDetent enc clockwise).knobAction enc clockwise (s.panel.knob enc)
      ((s.panel.enc enc).detent clockwise)
  else s.undue (.detent enc clockwise)

/-- DETENT (R40). -/
def execDetent (enc : Nat) (clockwise : Bool) (s : State) : Host.Outcome State Fault Refusal :=
  .next (s.takeDetent enc clockwise)

/-! ## Scan ticks (R26) -/

/-- An event that a scan tick has yielded is taken. -/
def State.takeEvent (s : State) : PanelEvent → State
  | .press k => s.takePress k
  | .release k => s.takeRelease k
  | .detent e cw => s.takeDetent e cw

/-- Every event that the last scan tick yielded and that has not been taken yet is taken, oldest first (log 22). -/
def State.takeDue (s : State) : State := s.panel.due.foldl State.takeEvent s

/-- Every scanned key and encoder is sampled, and what they yield waits to be taken (R26, R27, R38). -/
def State.scan (s : State) (keys : BitVec 64) (encA encB : BitVec 8) : State :=
  let nk := keysScanned s.straps
  let ne := encodersScanned s.straps
  { s with panel := { s.panel with
    scanTimer := Config.msTicks
    keys := scanKeys nk keys s.panel.keys
    encs := scanEncs ne encA encB s.panel.encs
    due := s.panel.due ++ keyEvents nk keys s.panel.keys ++ encEvents ne encA encB s.panel.encs } }

/-- SCAN_TICK (R26): the scan timer expires. What the tick before yielded has been taken before this tick's samples
(log 22). -/
def execScanTick (keys : BitVec 64) (encA encB : BitVec 8) (s : State) : Host.Outcome State Fault Refusal :=
  .next (s.takeDue.scan keys encA encB)

/-! ## Beeper and LEDs (R43 to R45) -/

/-- TONE_EXPIRY (R45). -/
def execToneExpiry (s : State) : Host.Outcome State Fault Refusal := .next (s.setTone s.panel.tone.expire)

/-- An LED's condition holds (R43). -/
def State.lit (s : State) : LedSource → Bool
  | .off => false
  | .on => true
  | .fieldEq id v => (fieldSpec s.straps id).isSome && decide (s.fieldVal id = v)
  | .frontIs n => decide (n ≤ channelCount s.straps) && decide (s.fieldVal fidFront = n)
  | .runMode m => decide (s.acq.mode = m)
  | .acqReady => decide (s.acq.state = .ready)
  | .locked => s.setup.holder.isSome

/-- Counts driven in a PWM period by an LED map entry (R44). -/
def State.duty (s : State) (l : LedEntry) : Nat :=
  if s.lit l.source && (!l.blink || s.panel.blinkOn) then (s.fieldVal 64).toNat * 17 else 0

/-- LED_PWM_PERIOD (R44): the drive shows its LED's state as it stands now (log 36). -/
def execLedPwmPeriod (led : Nat) (s : State) : Host.Outcome State Fault Refusal :=
  .next { s with panel := { s.panel with
    leds := updateAt s.panel.leds led fun _ => s.duty (s.panel.ledmap.getD led ⟨.off, false⟩) } }

/-- A frame expiry told to the panel scanner: the blink count rises, and at 32 the phase alternates (R44). -/
def Panel.blink (p : Panel) : Panel :=
  { p with
    blinkOn := if p.blinkCount + 1 < 32 then p.blinkOn else !p.blinkOn
    blinkCount := if p.blinkCount + 1 < 32 then p.blinkCount + 1 else 0 }

end Sys2Proof.Machine
end

