-- ==== Sys2Proof/Machine/Link.lean ====
section
/-!
DEFINITION. The link of a master port (09): words written and read, the frame checks, data bursts, memory turns, abort
and port reset; with the meanings of these commands.
-/

namespace Sys2Proof.Machine

/-! ## Holds (R102, R103, R164) -/

/-- A port's holds of a segment. -/
def Seg.portHolds (g : Seg) : Port → Nat
  | .a => g.holdsA
  | .b => g.holdsB

/-- Change a port's hold count of a segment. -/
def Seg.updHolds (g : Seg) (p : Port) (f : Nat → Nat) : Seg :=
  { g with
    holdsA := if p = .a then f g.holdsA else g.holdsA
    holdsB := if p = .b then f g.holdsB else g.holdsB }

/-- A port takes one hold on a segment: the count in the record and the entry in the port's list rise together. -/
def State.addHold (s : State) (p : Port) (i : Nat) (implicit : Bool) : State :=
  (s.setSeg i ((s.seg i).updHolds p (· + 1))).updPort p fun ps => { ps with holds := ps.holds ++ [⟨i, implicit⟩] }

/-- A port gives back one hold; the segment is freed if no longer kept (R87, R102). -/
def State.dropHold (s : State) (p : Port) (i : Nat) (implicit : Bool) : State :=
  ((s.setSeg i ((s.seg i).updHolds p (· - 1))).updPort p fun ps =>
    { ps with holds := ps.holds.erase ⟨i, implicit⟩ }).freeIfUnkept i

/-- What a DATA_OUT request in flight holds is given back: its implicit hold, or its screen-read count (R169, R173). -/
def State.giveBack (s : State) (p : Port) : State :=
  match (s.port p).out with
  | some (.waveform i _ _ _) => (s.dropHold p i true).finishAct
  | some .screen => { s with comp := s.comp.endRead }
  | _ => s

/-! ## Words the master writes (R165, R166, R170) -/

/-- The command that a written word is by the code on the port's mark lines: 0 START, 1 FRAME, 2 DATA, 3 CHECK (R181). -/
def markCommand (p : Port) (mark : BitVec 2) (w : Word) : Instr :=
  if mark = 0 then .startWord p w
  else if mark = 1 then .frameWord p w
  else if mark = 2 then .dataWord p w
  else .checkWord p w

/-- Parameter count of a header (R183). -/
def headerCount (w : Word) : Nat := (w.extractLsb' 0 8).toNat

/-- Request kind of a header. -/
def headerKind (w : Word) : BitVec 8 := w.extractLsb' 8 8

/-- A START taken in IDLE: ACCEPTED, and RECEIVING or, with a count above 64, BAD_FRAME at once (R165, R166). -/
def State.acceptStart (s : State) (p : Port) (w : Word) : State :=
  if 64 < headerCount w then
    (s.updPort p fun ps => { ps with ack := .accepted }).respond p .badFrame []
  else s.updPort p fun ps => { ps with ack := .accepted, link := .receiving, header := w, rx := [] }

/-- A START taken otherwise: BUSY, and its FRAME words are to be discarded (R165). A read that waits for its access has
moved no word: it is over, and the next read gives the acknowledge (log 43). -/
def PortState.refuseStart (ps : PortState) (w : Word) : PortState :=
  { ps with ack := .busy, discard := headerCount w + 1, waiting := false }

/-- START_WORD (R165; logs 16 and 17). -/
def execStartWord (p : Port) (w : Word) (s : State) : Host.Outcome State Fault Refusal :=
  .next (
    if (s.port p).prst = true ∨ (s.port p).ack ≠ .none then s
    else if (s.port p).link = .idle ∧ (s.port p).discard = 0 then s.acceptStart p w
    else s.updPort p (·.refuseStart w))

/-- The frame's CRC word: the checks of R166 steps 3 and 4. -/
def State.closeFrame (s : State) (p : Port) (w : Word) : State :=
  let ps := s.port p
  if crcOf (ps.header :: ps.rx) ≠ w then s.respond p .badFrame []
  else if frameTaken (headerKind ps.header) ps.rx = false then s.respond p .badRequest []
  else s.updPort p fun ps =>
    { ps with link := .executing, staged := some ⟨headerKind ps.header, ps.rx, false⟩, header := 0, rx := [] }

/-- FRAME_WORD (R165, R166). -/
def execFrameWord (p : Port) (w : Word) (s : State) : Host.Outcome State Fault Refusal :=
  .next (
    if (s.port p).prst then s
    else if 0 < (s.port p).discard then s.updPort p fun ps => { ps with discard := ps.discard - 1 }
    else if (s.port p).link = .receiving then
      (if (s.port p).rx.length < headerCount (s.port p).header then
        s.updPort p fun ps => { ps with rx := ps.rx ++ [w] }
      else s.closeFrame p w)
    else s)

/-- DATA_WORD (R166, R170). -/
def execDataWord (p : Port) (w : Word) (s : State) : Host.Outcome State Fault Refusal :=
  .next (
    if (s.port p).prst then s
    else match (s.port p).link with
      | .receiving => s.respond p .badFrame []
      | .dataIn => s.updPort p fun ps => { ps with inBurst := ps.inBurst ++ [w] }
      | _ => s)

/-- A burst passes: at most 512 words, and its CRC is the CHECK word (R170 step 1). -/
def burstGood (ws : List Word) (check : Word) : Bool :=
  decide (ws.length ≤ Config.burstWords) && decide (crcOf ws = check)

/-- The words of a burst that the request still needs (R170). -/
def wantedWords (ps : PortState) (r : Staged) : List Word := ps.inBurst.take (dataNeed r - ps.counted)

/-- The request is a WRITE_OVERLAY. -/
def Staged.isOverlay (r : Staged) : Bool := r.kind == kindWriteOverlay

/-- Signed position parameter (R181). -/
def parInt (ws : List Word) (i : Nat) : Int := (par ws i).toInt

/-- The port's part of taking a CHECK word (R170). -/
def PortState.closeBurst (ps : PortState) (r : Staged) (w : Word) : PortState :=
  { ps with
    failed := ps.failed.or (if burstGood ps.inBurst w then none else some ps.burst)
    table := if r.isOverlay then ps.table else some (ps.table.getD [] ++ wantedWords ps r)
    counted := ps.counted + ps.inBurst.length
    burst := ps.burst + 1
    inBurst := []
    staged := some { r with dataDone := decide (dataNeed r ≤ ps.counted + ps.inBurst.length) }
    link := if dataNeed r ≤ ps.counted + ps.inBurst.length then .executing else .dataIn }

/-- The plane after a burst: a good burst of a WRITE_OVERLAY is stored (R142). -/
def Overlay.takeBurst (o : Overlay) (ps : PortState) (r : Staged) (w : Word) : Overlay :=
  if r.isOverlay && burstGood ps.inBurst w then
    storeBurst (parInt r.params 0) (parInt r.params 1) (parNat r.params 2) (parNat r.params 3) ps.counted
      (wantedWords ps r) o
  else o

/-- CHECK_WORD (R166, R170). -/
def execCheckWord (p : Port) (w : Word) (s : State) : Host.Outcome State Fault Refusal :=
  .next (
    if (s.port p).prst then s
    else match (s.port p).link, (s.port p).staged with
      | .receiving, _ => s.respond p .badFrame []
      | .dataIn, some r =>
        State.updPort { s with comp := s.comp.updOverlay p fun o => o.takeBurst (s.port p) r w } p
          fun ps => ps.closeBurst r w
      | _, _ => s)

/-! ## Words the master reads (R165, R168, R169) -/

/-- Data words of a DATA_OUT request (R103, R145, R159). -/
def DataOut.total : DataOut → Nat
  | .waveform _ _ _ count => (count + 1) / 2
  | .screen => screenWords
  | .list ws => ws.length

/-- Data word `k` of a DATA_OUT request, from its source (R103, R145, R159). -/
def State.outWord (s : State) (d : DataOut) (k : Nat) : Word :=
  match d with
  | .waveform i n start count =>
    s.acq.sample i n (start + 2 * k) ++ (if 2 * k + 1 < count then s.acq.sample i n (start + 2 * k + 1) else (0 : Byte))
  | .screen => Cells.get 0 s.comp.front k
  | .list ws => ws.getD k 0

/-- The data comes through a shared memory (R171, R172). -/
def DataOut.shared : DataOut → Bool
  | .list _ => false
  | _ => true

/-- Words of the burst in hand (R169). -/
def burstLength (total burst : Nat) : Nat := min Config.burstWords (total - Config.burstWords * burst)

/-- Data words given so far. -/
def PortState.given (ps : PortState) : Nat := Config.burstWords * ps.burst + ps.word

/-- Code of an acknowledge word (R183). -/
def ackWord : Ack → Word
  | .busy => 2
  | _ => 0

/-- The port gives a word. -/
def PortState.give (ps : PortState) (w : Word) : PortState := { ps with readWord := w }

/-- The read of a response word; at the CRC word the response is spent, and DATA_OUT or IDLE follows (R168). -/
def PortState.readResponse (ps : PortState) (r : Response) : PortState :=
  let w := r.words.getD r.pos 0xFFFF
  if r.pos + 1 < r.words.length then { ps.give w with response := some { r with pos := r.pos + 1 } }
  else
    match ps.out with
    | some _ => { ps.give w with response := none, link := .dataOut }
    | none => { ps.clearRequest.give w with link := .idle }

/-- The read of a data word (R169). -/
def PortState.readData (ps : PortState) (w : Word) : PortState :=
  { ps.give w with crc := crcWord ps.crc w, word := ps.word + 1, fetched := ps.fetched - 1 }

/-- The read of a burst's CRC word that is not the last (R169). -/
def PortState.nextBurst (ps : PortState) : PortState :=
  { ps.give ps.crc with crc := crcSeed, word := 0, burst := ps.burst + 1 }

/-- A read in DATA_OUT: a data word, which waits for its access to a shared memory; a burst's CRC word; at the last
one the request ends (R165, R169; log 20). -/
def State.readOut (s : State) (p : Port) (d : DataOut) : State :=
  let ps := s.port p
  if ps.word < burstLength d.total ps.burst then
    (if d.shared = true ∧ ps.fetched = 0 then s.updPort p fun ps => { ps with waiting := true }
    else s.updPort p fun ps => ps.readData (s.outWord d ps.given))
  else if Config.burstWords * (ps.burst + 1) < d.total then s.updPort p (·.nextBurst)
  else (s.giveBack p).updPort p fun q => { q.clearRequest.give ps.crc with link := .idle }

/-- WORD_READ (R165, R168, R169, R174). -/
def execWordRead (p : Port) (s : State) : Host.Outcome State Fault Refusal :=
  .next (
    if (s.port p).prst then s.updPort p (·.give 0xFFFF)
    else if (s.port p).ack ≠ .none then s.updPort p fun ps => { ps.give (ackWord ps.ack) with ack := .none }
    else match (s.port p).link, (s.port p).response, (s.port p).out with
      | .responding, some r, _ => s.updPort p (·.readResponse r)
      | .dataOut, _, some d => s.readOut p d
      | _, _, _ => s.updPort p (·.give 0xFFFF))

/-! ## Memory turns (R171, R172) -/

/-- The claimants in the cyclic order renderer or compositor, PORT_A, PORT_B, from the one after the last served. -/
def turnsAfter : Claimant → List Claimant
  | .engine => [.portA, .portB, .engine]
  | .portA => [.portB, .engine, .portA]
  | .portB => [.engine, .portA, .portB]

/-- The next claimant to be served; those with no claim are passed over. -/
def nextClaimant (last : Claimant) (claims : Claimant → Bool) : Option Claimant := (turnsAfter last).find? claims

/-- A port claims an access: a word read of its DATA_OUT waits for the next words of the memory (R171, R172). A port
whose master pauses has no read that waits, and claims none. -/
def PortState.claims (ps : PortState) (screen : Bool) : Bool :=
  match ps.link, ps.out with
  | .dataOut, some (.waveform ..) => !screen && ps.waiting
  | .dataOut, some .screen => screen && ps.waiting
  | _, _ => false

/-- The renderer claims an access: its next column waits for samples (R126, R171). -/
def Renderer.claims (r : Renderer) : Bool :=
  match r.render with
  | some r => decide (r.read < samplesNeeded r)
  | none => false

/-- The compositor claims an access: a build has words left to write (R172). -/
def Compositor.claims (c : Compositor) : Bool := decide (c.state = .composing) && decide (c.built < screenWords)

/-- Who claims sample memory. -/
def State.memClaims (s : State) : Claimant → Bool
  | .engine => s.rend.claims
  | .portA => s.portA.claims false
  | .portB => s.portB.claims false

/-- Who claims the frame buffers. -/
def State.fbClaims (s : State) : Claimant → Bool
  | .engine => s.comp.claims
  | .portA => s.portA.claims true
  | .portB => s.portB.claims true

/-- A port is served: up to 16 words come in, and the word read that waited for them is given the first (R165, R171,
R172; log 20). -/
def State.servePort (s : State) (p : Port) : State :=
  match (s.port p).out with
  | some d => s.updPort p fun ps =>
      { ps with fetched := min Config.accessWords (d.total - ps.given), waiting := false }.readData (s.outWord d ps.given)
  | none => s

/-- Samples the channel in hand of a render has in all (R114). -/
def samplesInAll (r : Render) : Nat := r.len + (if 0 < r.start then 1 else 0)

/-- The renderer is served: up to 16 words, two samples a word (R171; log 20). -/
def Renderer.served (r : Renderer) : Renderer :=
  { r with render := r.render.map fun x => { x with read := min (samplesInAll x) (x.read + 2 * Config.accessWords) } }

/-- The words the build writes in one access. -/
def buildWords (c : Compositor) : List Word :=
  match c.build with
  | some b => (List.range (min Config.accessWords (screenWords - c.built))).map fun k => imagePixel b (c.built + k)
  | none => []

/-- The compositor is served: up to 16 words of the image go to the back buffer (R172; log 21). -/
def Compositor.served (c : Compositor) : Compositor :=
  { c with
    back := Cells.putRun 0 c.back c.built (buildWords c)
    built := min screenWords (c.built + Config.accessWords) }

/-- SAMPLE_MEMORY_ACCESS (R171). With no claim nothing moves. -/
def execSampleMemoryAccess (s : State) : Host.Outcome State Fault Refusal :=
  .next (match nextClaimant s.memLast s.memClaims with
    | some .engine => { s with rend := s.rend.served, memLast := .engine }
    | some .portA => { s.servePort .a with memLast := .portA }
    | some .portB => { s.servePort .b with memLast := .portB }
    | none => s)

/-- FRAME_BUFFER_ACCESS (R172). With no claim nothing moves. -/
def execFrameBufferAccess (s : State) : Host.Outcome State Fault Refusal :=
  .next (match nextClaimant s.fbLast s.fbClaims with
    | some .engine => { s with comp := s.comp.served, fbLast := .engine }
    | some .portA => { s.servePort .a with fbLast := .portA }
    | some .portB => { s.servePort .b with fbLast := .portB }
    | none => s)

/-! ## Abort and port reset (R173, R174) -/

/-- The effect of an abort by the link state it finds (R173; what it leaves: log 34; the unread response of a refused
request that would have had data: log 41). -/
def State.abort (s : State) (p : Port) : State :=
  match (s.port p).link, (s.port p).out with
  | .idle, _ => s
  | .responding, none => s
  | _, _ => (s.giveBack p).respond p .aborted []

/-- ABORT (R173); ignored while PRST is asserted (R174). -/
def execAbort (p : Port) (s : State) : Host.Outcome State Fault Refusal :=
  .next (if (s.port p).prst then s else s.abort p)

/-- A port's READ_SCREEN in flight gives back its count (R145, R174). -/
def State.giveBackScreen (s : State) (p : Port) : State :=
  match (s.port p).out with
  | some .screen => { s with comp := s.comp.endRead }
  | _ => s

/-- Every hold of a port is released, and each segment then no longer kept is freed (R102, R174). -/
def State.releaseAll (s : State) (p : Port) : State :=
  (s.port p).holds.foldl (fun s h => s.dropHold p h.seg h.implicit) s

/-- The port's parts at their port-reset values, with PRST asserted (R164, R174; the words still to be discarded: log
40). -/
def PortState.reset (ps : PortState) : PortState := { PortState.initial with prst := true, readWord := ps.readWord }

/-- The port's overlay plane and palette at their reset values (R141). -/
def State.resetOverlay (s : State) (p : Port) : State :=
  { s with comp := s.comp.updOverlay p fun _ => Overlay.initial }

/-- PORT_RESET, one act (R174). -/
def execPortReset (p : Port) (s : State) : Host.Outcome State Fault Refusal :=
  let t := (((s.giveBackScreen p).releaseAll p).resetOverlay p).updPort p PortState.reset
  let t := if s.setup.holder = some p then t.endLock else t
  .next t.finishAct

/-- PRST_RELEASE (R174). -/
def execPrstRelease (p : Port) (s : State) : Host.Outcome State Fault Refusal :=
  .next (s.updPort p fun ps => { ps with prst := false })

end Sys2Proof.Machine
end

