-- ==== Sys2Proof/Machine/Requests.lean ====
section
/-!
DEFINITION. The meanings of the requests of the live setup, the panel, the trigger unit and the ports themselves (01, 02,
04, 09), each taken by its owning block in one act (R167).
-/

namespace Sys2Proof.Machine

/-- Completion of an unrefused request. -/
def okCode (clamped : Bool) : Code := if clamped then .clamped else .ok

/-! ## The port's own requests (R177, R179, R180) -/

/-- The descriptor (R180, table 10.4). -/
def descriptor (st : Straps) : List Word :=
  [1, word (channelCount st)] ++ wordsNat (depthOf st)
    ++ [(match st.panel with
        | .s => 0
        | .l => 1), word (keysScanned st), word (encodersScanned st), word (presentIds st).length,
      word Config.setupSlots, word Config.burstWords, word Config.queueDepth]

/-- IDENTIFY (R180). -/
def execIdentify (p : Port) (s : State) : Host.Outcome State Fault Refusal :=
  onRequest p kindIdentify s fun _ => s.respond p .ok (descriptor s.straps)

/-- The oldest `n` notices leave the queue; LOST clears when it is left empty (R177). -/
def PortState.takeOut (ps : PortState) (n : Nat) : PortState :=
  { ps with queue := ps.queue.drop n, lost := ps.lost && !(ps.queue.drop n).isEmpty }

/-- Result words of GET_NOTICES: the number returned, the number left, the records (R183). -/
def noticeWords (q : List Notice) (n : Nat) : List Word :=
  [word (q.take n).length, word (q.drop n).length] ++ (q.take n).flatMap noticeRecord

/-- GET_NOTICES (R177). The flags report LOST as it stood before the clear. -/
def execGetNotices (p : Port) (s : State) : Host.Outcome State Fault Refusal :=
  onRequest p kindGetNotices s fun ws =>
    let n := parNat ws 0
    if n = 0 ∨ 16 < n then s.respond p .badValue []
    else (s.updPort p (·.takeOut n)).respondLost p (s.port p).lost .ok (noticeWords (s.port p).queue n)

/-- SET_ATTENTION (R179). -/
def execSetAttention (p : Port) (s : State) : Host.Outcome State Fault Refusal :=
  onRequest p kindSetAttention s fun ws =>
    if 3 < parNat ws 0 ∨ 255 < parNat ws 1 then s.respond p .badValue []
    else (s.updPort p fun ps =>
      { ps with attnMask := (par ws 0).extractLsb' 0 2, noticeMask := (par ws 1).extractLsb' 0 8 }).respond p .ok []

/-! ## Setup requests (R18 to R22) -/

/-- The words of one entry of SETUP_READ (R18, table 10.4). -/
def readEntry (r : FieldRec) : List Word :=
  word r.id :: (wordsValue r.value ++ [word r.src.number] ++ words32 r.gen)

/-- The records of a range of ids, ascending. -/
def Setup.range (m : Setup) (first count : Nat) : List FieldRec :=
  m.recs.filter fun r => decide (first ≤ r.id) && decide (r.id < first + count)

/-- SETUP_READ (R18). -/
def execSetupRead (p : Port) (s : State) : Host.Outcome State Fault Refusal :=
  onRequest p kindSetupRead s fun ws =>
    if parNat ws 1 = 0 ∨ 32 < parNat ws 1 ∨ 128 < parNat ws 0 + parNat ws 1 then s.respond p .badValue []
    else s.respond p .ok
      (words32 s.setup.gen ++ (s.setup.range (parNat ws 0) (parNat ws 1)).flatMap readEntry)

/-- Source of a change from a port (R5). -/
def portSource : Port → Source
  | .a => .portA
  | .b => .portB

/-- Two of the pairs name the same id. -/
def repeatsId (pairs : List (Nat × Int)) : Bool := !decide (pairs.map (·.1)).Nodup

/-- SETUP_WRITE breaks its form (R19 step 1). -/
def badWrite (pairs : List (Nat × Int)) : Bool :=
  decide (pairs = []) || decide (16 < pairs.length) || repeatsId pairs

/-- Result words of an applied SETUP_WRITE: the generation and the value in force of each named field (R19). -/
def State.writeResults (s : State) (pairs : List (Nat × Int)) : List Word :=
  words32 s.setup.gen ++ pairs.flatMap fun q => wordsValue (s.fieldVal q.1)

/-- SETUP_WRITE (R19), its checks in their order. -/
def execSetupWrite (p : Port) (s : State) : Host.Outcome State Fault Refusal :=
  onRequest p kindSetupWrite s fun ws =>
    let pairs := readPairs (ws.drop 2)
    if badWrite pairs then s.respond p .badRequest (words32 s.setup.gen)
    else if s.lockedAgainst (.port p) then s.respond p .locked (words32 s.setup.gen)
    else if par32 ws 0 ≠ 0 ∧ par32 ws 0 ≠ s.setup.gen then s.respond p .stale (words32 s.setup.gen)
    else
      match s.change (portSource p) pairs with
      | .error (code, id) => s.respond p code [word id]
      | .ok (t, code) => t.respond p code (t.writeResults pairs)

/-- SETUP_EXCHANGE (R20). -/
def execSetupExchange (p : Port) (s : State) : Host.Outcome State Fault Refusal :=
  onRequest p kindSetupExchange s fun ws =>
    let id := parNat ws 0
    if s.lockedAgainst (.port p) then s.respond p .locked []
    else
      match s.change (portSource p) [(id, parValue ws 1)] with
      | .error (code, _) => s.respond p code []
      | .ok (t, code) =>
        t.respond p code (wordsValue (s.fieldVal id) ++ wordsValue (t.fieldVal id) ++ words32 t.setup.gen)

/-- DEFAULT_SETUP (R21). -/
def execDefaultSetup (p : Port) (s : State) : Host.Outcome State Fault Refusal :=
  onRequest p kindDefaultSetup s fun _ =>
    if s.lockedAgainst (.port p) then s.respond p .locked []
    else
      match s.change .dflt (defaultPairs s.straps) with
      | .error (code, _) => s.respond p code []
      | .ok (t, code) => t.respond p code (words32 t.setup.gen)

/-- The lock is granted, or its flag set anew for its holder (R22). -/
def State.grantLock (s : State) (p : Port) (disabled : Bool) : State :=
  let t := { s with setup := { s.setup with holder := some p, localDisabled := disabled } }
  if s.setup.holder = none then t.post (.lockChanged (some p)) else t

/-- LOCK (R22; the holder in a refusal: log 18). -/
def execLock (p : Port) (s : State) : Host.Outcome State Fault Refusal :=
  onRequest p kindLock s fun ws =>
    if s.lockedAgainst (.port p) then s.respond p .locked [word (holderCode s.setup.holder)]
    else (s.grantLock p (decide (par ws 0 = 1))).respond p .ok [word (holderCode (some p))]

/-- UNLOCK (R22, R24). -/
def execUnlock (p : Port) (s : State) : Host.Outcome State Fault Refusal :=
  onRequest p kindUnlock s fun _ =>
    if s.lockedAgainst (.port p) then s.respond p .locked [word (holderCode s.setup.holder)]
    else (if s.setup.holder = none then s else s.endLock).respond p .ok [word (holderCode none)]

/-! ## Map writes and BEEP (R46 to R48) -/

/-- A map write's range is refused (R47 step 1). -/
def badRange (size first count : Nat) : Bool := decide (count = 0) || decide (size < first + count)

/-- A DATA_IN request is accepted: its data phase begins (R167, R170). -/
def PortState.beginData (ps : PortState) (table : Option (List Word)) : PortState :=
  { ps with
    link := .dataIn, burst := 0, word := 0, inBurst := [], counted := 0, failed := none, table := table }

/-- A map write's range is checked, and its staging begins (R47 steps 1 and 2). -/
def State.beginMap (s : State) (p : Port) (size : Nat) (ws : List Word) : State :=
  if badRange size (parNat ws 0) (parNat ws 1) then s.respond p .badValue []
  else s.updPort p (·.beginData (some []))

/-- WRITE_KEYMAP (R47). -/
def execWriteKeymap (p : Port) (s : State) : Host.Outcome State Fault Refusal :=
  onRequest p kindWriteKeymap s (s.beginMap p 64)

/-- WRITE_KNOBMAP (R47). -/
def execWriteKnobmap (p : Port) (s : State) : Host.Outcome State Fault Refusal :=
  onRequest p kindWriteKnobmap s (s.beginMap p 8)

/-- WRITE_LEDMAP (R47). -/
def execWriteLedmap (p : Port) (s : State) : Host.Outcome State Fault Refusal :=
  onRequest p kindWriteLedmap s (s.beginMap p 32)

/-- Replace the entries from `first` on (R47 step 5). -/
def replaceFrom {α : Type} (first : Nat) (new : List α) (old : List α) : List α :=
  old.mapIdx fun i x => if first ≤ i then new.getD (i - first) x else x

/-- Apply a staged table whose entries are checked (R47 steps 4 and 5): BAD_VALUE with the index of the lowest invalid
entry (log 38), or OK. -/
def State.applyMap {α : Type} (s : State) (p : Port) (first : Nat) (es : List (Option α)) (f : List α → State) :
    State :=
  if es.all (·.isSome) then (f (es.filterMap id)).respond p .ok []
  else s.respond p .badValue [word (first + es.findIdx (·.isNone))]

/-- The fast run of each encoder whose entry was written becomes 0 (R40, R48). -/
def clearFast (first count : Nat) (es : List EncRec) : List EncRec :=
  es.mapIdx fun i e => if first ≤ i ∧ i < first + count then { e with fast := 0 } else e

/-- The owning block's act at the end of a data phase whose bursts all passed. -/
def State.completeData (s : State) (p : Port) (r : Staged) (table : List Word) : State :=
  let first := parNat r.params 0
  if r.kind = kindWriteKeymap then
    s.applyMap p first (readEntries readKeyEntry table) fun es =>
      { s with panel := { s.panel with keymap := replaceFrom first es s.panel.keymap } }
  else if r.kind = kindWriteKnobmap then
    s.applyMap p first (readEntries readKnobEntry table) fun es =>
      { s with panel := { s.panel with
        knobmap := replaceFrom first es s.panel.knobmap
        encs := clearFast first es.length s.panel.encs } }
  else if r.kind = kindWriteLedmap then
    s.applyMap p first (readEntries readLedEntry table) fun es =>
      { s with panel := { s.panel with ledmap := replaceFrom first es s.panel.ledmap } }
  else s.respond p .ok []

/-- The result word of CRC_ERROR: the first failed burst's number (R168), free where a word cannot hold it (log 42). -/
def burstWord (b : Nat) : Word := if b < 65536 then word b else Config.wideBurst b

/-- DATA_IN_COMPLETION (R167, R170, R47, R142). -/
def execDataInCompletion (p : Port) (s : State) : Host.Outcome State Fault Refusal :=
  .next (match (s.port p).link, (s.port p).staged with
    | .executing, some r =>
      if r.dataDone then
        match (s.port p).failed with
        | some b => s.respond p .crcError [burstWord b]
        | none => s.completeData p r ((s.port p).table.getD [])
      else s
    | _, _ => s)

/-- BEEP (R46). -/
def execBeep (p : Port) (s : State) : Host.Outcome State Fault Refusal :=
  onRequest p kindBeep s fun ws =>
    let f := clampNat 100 10000 (parNat ws 0)
    let d := clampNat 1 5000 (parNat ws 1)
    (s.beepTone f d).respond p (okCode (decide (f ≠ parNat ws 0) || decide (d ≠ parNat ws 1))) []

/-! ## Trigger and run control (R78, R83, R76) -/

/-- Remaining time of the auto timer in ms, rounded up; all ones when stopped (R78, table 10.4). -/
def autoWords (t : Option Nat) : List Word :=
  match t with
  | none => [0xFFFF, 0xFFFF]
  | some l => wordsNat ((l + (Config.msTicks - 1)) / Config.msTicks)

/-- Result words of TRIGGER_STATUS (R78, R185). -/
def Trig.statusWords (t : Trig) : List Word :=
  wordsNat t.capA ++ wordsNat t.capB ++ [trigStateWord t] ++ wordsNat t.wcount ++ wordsNat ((t.holdoff + 9) / 10)
    ++ autoWords t.autoTimer ++ [word t.ext.number]

/-- TRIGGER_STATUS (R78). -/
def execTriggerStatus (p : Port) (s : State) : Host.Outcome State Fault Refusal :=
  onRequest p kindTriggerStatus s fun _ => s.respond p .ok s.trig.statusWords

/-- The completion of a run-control request holds the run mode after it (R83). -/
def State.respondMode (s : State) (p : Port) : State := s.respond p .ok [word s.acq.mode.number]

/-- RUN_CONTROL with RUN, STOP, SINGLE or SEQUENCE, and with a value outside the set (R83). FORCE is the other row's. -/
def execRunControl (p : Port) (s : State) : Host.Outcome State Fault Refusal :=
  onRequest p kindRunControl s fun ws =>
    if parNat ws 0 = 4 then s
    else
      match runModeOf (parNat ws 0) with
      | none => s.respond p .badValue []
      | some m => if s.lockedAgainst (.port p) then s.respond p .locked [] else (s.runControl m).respondMode p

/-- RUN_CONTROL with FORCE (R76, R83). -/
def execRunControlForce (p : Port) (s : State) : Host.Outcome State Fault Refusal :=
  onRequest p kindRunControl s fun ws =>
    if parNat ws 0 = 4 then
      (if s.lockedAgainst (.port p) then s.respond p .locked [] else s.force.respondMode p)
    else s

/-! ## Display requests (R125, R142 to R145) -/

/-- CLEAR_DISPLAY (R125). -/
def execClearDisplay (p : Port) (s : State) : Host.Outcome State Fault Refusal :=
  onRequest p kindClearDisplay s fun _ =>
    if s.lockedAgainst (.port p) then s.respond p .locked [] else s.clearDisplay.respond p .ok []

/-- A rectangle's size is refused (R142). -/
def badSize (w h : Nat) : Bool :=
  decide (w = 0) || decide (Config.screenW < w) || decide (h = 0) || decide (Config.screenH < h)

/-- WRITE_OVERLAY (R142). -/
def execWriteOverlay (p : Port) (s : State) : Host.Outcome State Fault Refusal :=
  onRequest p kindWriteOverlay s fun ws =>
    if badSize (parNat ws 2) (parNat ws 3) then s.respond p .badValue []
    else s.updPort p (·.beginData none)

/-- FILL_OVERLAY (R143). -/
def execFillOverlay (p : Port) (s : State) : Host.Outcome State Fault Refusal :=
  onRequest p kindFillOverlay s fun ws =>
    if badSize (parNat ws 2) (parNat ws 3) = true ∨ 15 < parNat ws 4 then s.respond p .badValue []
    else
      let fill := fillRect (parInt ws 0) (parInt ws 1) (parNat ws 2) (parNat ws 3) ((par ws 4).extractLsb' 0 4)
      State.respond { s with comp := s.comp.updOverlay p fill } p .ok []

/-- WRITE_PALETTE (R144). -/
def execWritePalette (p : Port) (s : State) : Host.Outcome State Fault Refusal :=
  onRequest p kindWritePalette s fun ws =>
    if parNat ws 1 = 0 ∨ 16 < parNat ws 0 + parNat ws 1 then s.respond p .badValue []
    else State.respond { s with comp := s.comp.updOverlay p (setPalette (parNat ws 0) (ws.drop 2)) } p .ok []

/-- READ_SCREEN (R145): the screen-read count rises, and the front buffer follows. -/
def execReadScreen (p : Port) (s : State) : Host.Outcome State Fault Refusal :=
  onRequest p kindReadScreen s fun _ =>
    State.respondOut { s with comp := { s.comp with reads := s.comp.reads + 1 } } p .ok
      ([word Config.screenW, word Config.screenH] ++ wordsNat screenWords) .screen

end Sys2Proof.Machine
end

