-- ==== Sys2Proof/Machine/SegmentRequests.lean ====
section
/-!
DEFINITION. The meanings of the segment store's requests (05 R102 to R105).
-/

namespace Sys2Proof.Machine

/-- The segment a reference names; none where CURRENT names no segment. -/
def State.resolveSeg (s : State) : SegRef → Option Nat
  | .current => s.acq.currentIdx
  | .index i => some i
  | .above => none

/-- HOLD of a segment that is named (R102). -/
def State.hold (s : State) (p : Port) (i : Nat) : State :=
  if (s.seg i).state ≠ .complete then s.respond p .noSegment []
  else if Config.maxHolds ≤ (s.port p).holds.length then s.respond p .holdLimit []
  else
    (s.addHold p i false).respond p .ok [word i, word ((s.seg i).portHolds p + 1)]

/-- HOLD (R102). -/
def execHold (p : Port) (s : State) : Host.Outcome State Fault Refusal :=
  onRequest p kindHold s fun ws =>
    match segRef (par ws 0), s.resolveSeg (segRef (par ws 0)) with
    | .above, _ => s.respond p .badValue []
    | _, none => s.respond p .noSegment []
    | _, some i => s.hold p i

/-- RELEASE of a segment that is named (R102). A hold that stands only as the port's implicit hold is none in
EXECUTING, so the count is that of the EXPLICIT entries. -/
def State.releaseHold (s : State) (p : Port) (i : Nat) : State :=
  if (s.seg i).portHolds p = 0 then s.respond p .noSegment []
  else
    (s.dropHold p i false).finishAct.respond p .ok [word i, word ((s.seg i).portHolds p - 1)]

/-- RELEASE (R102). -/
def execRelease (p : Port) (s : State) : Host.Outcome State Fault Refusal :=
  onRequest p kindRelease s fun ws =>
    match segRef (par ws 0), s.resolveSeg (segRef (par ws 0)) with
    | .above, _ => s.respond p .badValue []
    | _, none => s.respond p .noSegment []
    | _, some i => s.releaseHold p i

/-- READ_WAVEFORM of a COMPLETE segment, its checks from step 3 on (R103). -/
def State.readWave (s : State) (p : Port) (i ch start count : Nat) : State :=
  let g := s.seg i
  let len := s.acq.segLength g
  if Config.maxHolds ≤ (s.port p).holds.length then s.respond p .holdLimit []
  else if (s.acq.segChannels g).contains ch = false ∨ len ≤ start then s.respond p .badValue []
  else
    (s.addHold p i true).respondOut p (okCode (decide (len - start < count)))
      (words32 g.seq ++ wordsNat g.p ++ wordsNat (min count (len - start)))
      (.waveform i ch start (min count (len - start)))

/-- READ_WAVEFORM (R103). -/
def execReadWaveform (p : Port) (s : State) : Host.Outcome State Fault Refusal :=
  onRequest p kindReadWaveform s fun ws =>
    let ch := parNat ws 1
    let count := (par32 ws 4).toNat
    if segRef (par ws 0) = .above ∨ ch < 1 ∨ 4 < ch ∨ count = 0 then s.respond p .badValue []
    else
      match s.resolveSeg (segRef (par ws 0)) with
      | none => s.respond p .noSegment []
      | some i =>
        if (s.seg i).state ≠ .complete then s.respond p .noSegment []
        else s.readWave p i ch (par32 ws 2).toNat count

/-- Result words of SEGMENT_INFO by the segment's state (R104, R185). -/
def State.infoWords (s : State) (i : Nat) : List Word :=
  let g := s.seg i
  let sn := s.acq.snapOf g
  match g.state with
  | .free => [word i] ++ List.replicate 17 0
  | .filling =>
    [word i, word g.state.number] ++ words32 sn.gen ++ wordsNat (s.acq.segLength g)
      ++ wordsNat (intervalOf (s.acq.snapVal g 32))
      ++ [segFlagsWord { g with ovr := 0, auto := false, pending := false, current := false }
          (chanBits (s.acq.segChannels g))]
      ++ wordsNat g.p ++ List.replicate 7 0
  | .complete =>
    [word i, word g.state.number] ++ words32 sn.gen ++ wordsNat (s.acq.segLength g)
      ++ wordsNat (intervalOf (s.acq.snapVal g 32))
      ++ [segFlagsWord g (chanBits (s.acq.segChannels g))]
      ++ wordsNat g.p ++ words32 g.seq ++ words64 g.time ++ [word (256 * g.holdsA + g.holdsB)]

/-- SEGMENT_INFO (R104). -/
def execSegmentInfo (p : Port) (s : State) : Host.Outcome State Fault Refusal :=
  onRequest p kindSegmentInfo s fun ws =>
    match segRef (par ws 0), s.resolveSeg (segRef (par ws 0)) with
    | .above, _ => s.respond p .badValue []
    | _, none => s.respond p .noSegment []
    | _, some i => s.respond p .ok (s.infoWords i)

/-- A stored segment is shown: current, rasters cleared, handed over (R105). -/
def State.showSeg (s : State) (i : Nat) : State := (((s.makeCurrent i).clearRasters).handOff i).finishAct

/-- SHOW_SEGMENT (R105; CURRENT is no index here: log 19). -/
def execShowSegment (p : Port) (s : State) : Host.Outcome State Fault Refusal :=
  onRequest p kindShowSegment s fun ws =>
    match segRef (par ws 0) with
    | .index i =>
      if s.lockedAgainst (.port p) then s.respond p .locked []
      else if s.acq.mode ≠ .stop then s.respond p .notStopped []
      else if (s.seg i).state ≠ .complete then s.respond p .noSegment []
      else (s.showSeg i).respond p .ok [word i]
    | _ => s.respond p .badValue []

end Sys2Proof.Machine
end

