-- ==== Sys2Proof/Machine/StoreRequests.lean ====
section
/-!
DEFINITION. The meanings of the setup store's requests and of the ends of its stages (08).
-/

namespace Sys2Proof.Machine

/-- A setup slot 1..16. -/
def isSlot (n : Nat) : Bool := decide (1 ≤ n) && decide (n ≤ 16)

/-- The characters a SAVE_SETUP sends: as many as its length says (R184). -/
def sentName (ws : List Word) : List (BitVec 8) := (nameChars (ws.drop 2)).take (parNat ws 1)

/-- SAVE_SETUP (R153). -/
def execSaveSetup (p : Port) (s : State) : Host.Outcome State Fault Refusal :=
  onRequest p kindSaveSetup s fun ws =>
    if isSlot (parNat ws 0) = false ∨ 32 < parNat ws 1 then s.respond p .badValue []
    else if s.store.state ≠ .idle then s.respond p .storeBusy []
    else
      (s.acceptSave (parNat ws 0) (sentName ws) (.port p) false).respond p (okCode (nameAltered (sentName ws))) []

/-- RECALL_SETUP (R155). -/
def execRecallSetup (p : Port) (s : State) : Host.Outcome State Fault Refusal :=
  onRequest p kindRecallSetup s fun ws =>
    let n := parNat ws 0
    if isSlot n = false then s.respond p .badValue []
    else if s.lockedAgainst (.port p) then s.respond p .locked []
    else if s.store.state ≠ .idle then s.respond p .storeBusy []
    else
      match (s.store.entry n).state with
      | .empty => s.respond p .slotEmpty []
      | .corrupt => s.respond p .slotCorrupt []
      | .valid => (s.acceptRecall n (.port p) false).respond p .ok []

/-- ERASE_SETUP (R157). -/
def execEraseSetup (p : Port) (s : State) : Host.Outcome State Fault Refusal :=
  onRequest p kindEraseSetup s fun ws =>
    if isSlot (parNat ws 0) = false then s.respond p .badValue []
    else if s.store.state ≠ .idle then s.respond p .storeBusy []
    else (s.acceptErase (parNat ws 0) (.port p)).respond p .ok []

/-- SET_STARTUP (R158). -/
def execSetStartup (p : Port) (s : State) : Host.Outcome State Fault Refusal :=
  onRequest p kindSetStartup s fun ws =>
    if 16 < parNat ws 0 then s.respond p .badValue []
    else if s.store.state ≠ .idle then s.respond p .storeBusy []
    else (s.acceptStartup (parNat ws 0) (.port p)).respond p .ok []

/-- Code of a directory state (R185). -/
def DirState.number : DirState → Nat
  | .empty => 0
  | .valid => 1
  | .corrupt => 2

/-- The 14 words of a directory entry (R185). -/
def DirEntry.words (e : DirEntry) : List Word :=
  word e.state.number :: (e.name ++ words32 e.time ++ [e.source, e.channels, e.fields])

/-- LIST_SETUPS (R159). -/
def execListSetups (p : Port) (s : State) : Host.Outcome State Fault Refusal :=
  onRequest p kindListSetups s fun _ =>
    if s.store.state ≠ .idle then s.respond p .storeBusy []
    else s.respondOut p .ok (word s.store.startup :: words32 s.store.clock) (.list (s.store.dir.flatMap DirEntry.words))

/-- SET_CLOCK (R160). -/
def execSetClock (p : Port) (s : State) : Host.Outcome State Fault Refusal :=
  onRequest p kindSetClock s fun ws =>
    if s.store.state ≠ .idle then s.respond p .storeBusy []
    else
      State.respond
        { s with store := { s.store with clock := par32 ws 0, clockNext := Config.secondTicks } } p .ok []

/-! ## The ends of the store's stages (R151, R154, R156 to R158, R160) -/

/-- SCAN_SECTOR_READ_END (R151). A scan whose read ends has begun (log 24). -/
def execScanSectorReadEnd (upset : FlashUpset) (s : State) : Host.Outcome State Fault Refusal :=
  .next (if s.store.state = .scanning then
    { s with store := s.store.beginScan.scanRead (readSector s.store.flash upset s.store.scanAt) } else s)

/-- FIRST_WORD_MARK_END (R154 stage 1): the first word reads 0x0000, and the erase begins. -/
def execFirstWordMarkEnd (s : State) : Host.Outcome State Fault Refusal :=
  .next (match s.store.state, s.store.marked, s.store.op with
    | .erasing, false, some op =>
      { s with store := { s.store with
        marked := true
        flash := Cells.put erasedWord s.store.flash (flashKey op.sector 0) 0 } }
    | _, _, _ => s)

/-- ERASE_END (R154 stage 1, R157): PROGRAMMING follows for a save or a startup write, VERIFYING for an erase. -/
def execEraseEnd (upset : FlashUpset) (s : State) : Host.Outcome State Fault Refusal :=
  .next (match s.store.state, s.store.marked, s.store.op with
    | .erasing, true, some op =>
      { s with store := { s.store with
        state := if op.kind = .erase then .verifying else .programming
        marked := false
        flash := applyUpset (eraseSector s.store.flash op.sector) op.sector upset } }
    | _, _, _ => s)

/-- PROGRAM_END (R154 stage 2). -/
def execProgramEnd (upset : FlashUpset) (s : State) : Host.Outcome State Fault Refusal :=
  .next (match s.store.state, s.store.op with
    | .programming, some op =>
      { s with store := { s.store with
        state := .verifying
        flash := applyUpset (programWords s.store.flash op.sector (programRecord s.store.buffer)) op.sector upset } }
    | _, _ => s)

/-- VERIFY_END (R154, R157, R158). -/
def execVerifyEnd (upset : FlashUpset) (s : State) : Host.Outcome State Fault Refusal :=
  .next (match s.store.state, s.store.op with
    | .verifying, some op =>
      let v := verifyResult s.store op (readSector s.store.flash upset op.sector)
      State.endOp { s with store := v.1 } op v.2
    | _, _ => s)

/-- RECALL_READ_END (R156). -/
def execRecallReadEnd (upset : FlashUpset) (s : State) : Host.Outcome State Fault Refusal :=
  .next (match s.store.state, s.store.op with
    | .reading, some op => s.endRecall op (readSector s.store.flash upset op.sector)
    | _, _ => s)

/-- CLOCK_RISE (R160). -/
def execClockRise (s : State) : Host.Outcome State Fault Refusal :=
  .next { s with store := { s.store with clock := s.store.clock + 1, clockNext := Config.secondTicks } }

end Sys2Proof.Machine
end

