-- ==== Sys2Proof/Machine/Events.lean ====
section
/-!
DEFINITION. The meanings of the events of the front end, the sample stream, the timers, the frames and the power-on reset
(03 to 07), and what passes while no command waits.
-/

namespace Sys2Proof.Machine

/-! ## Front end (R53 to R57) -/

/-- What follows every event of the front-end controller: the arbiter, and the telling of acquisition (R52, R58). -/
def State.feFinish (s : State) : State := s.feArbitrate.tellSettled

/-- An echo with the tag of the frame in flight, judged (R53). -/
def State.judgeEcho (s : State) (f : Flight) (w : Word) : State :=
  if echoEqual w f.word then (s.feConfirm f.chan).feFinish else (s.feMismatch f.chan).feFinish

/-- Tag of a frame or an echo (10.7). -/
def frameTag (w : Word) : BitVec 4 := w.extractLsb' 12 4

/-- ECHO (R53): a stray is discarded. -/
def execEcho (w : Word) (s : State) : Host.Outcome State Fault Refusal :=
  .next (match s.fe.link with
    | some f => if frameTag w = frameTag f.word then s.judgeEcho f w else s
    | none => s)

/-- ECHO_TIMEOUT (R53, R55). -/
def execEchoTimeout (s : State) : Host.Outcome State Fault Refusal :=
  .next (match s.fe.link with
    | some f => (s.feMismatch f.chan).feFinish
    | none => s)

/-- The settle timer of a channel expires (R57). -/
def ChanRec.expire (c : ChanRec) : ChanRec := { c with settle := none, relayMoved := false }

/-- SETTLE_EXPIRY (R57, R58), where the channel's settle timer runs (log 4). -/
def execSettleExpiry (ch : Nat) (s : State) : Host.Outcome State Fault Refusal :=
  .next (if 1 ≤ ch ∧ ch ≤ channelCount s.straps ∧ (s.fe.chan ch).settle ≠ none then
    State.tellSettled { s with fe := s.fe.updChan ch ChanRec.expire } else s)

/-! ## Samples and trigger (R60, R72, R75, R79) -/

/-- KEPT_SAMPLE (R60). While no segment is FILLING there is none. -/
def execKeptSample (c1 c2 c3 c4 : Byte) (ext : Bool) (s : State) : Host.Outcome State Fault Refusal :=
  .next (s.keptSample [c1, c2, c3, c4] ext)

/-- HOLDOFF_EXPIRY (R72). -/
def execHoldoffExpiry (s : State) : Host.Outcome State Fault Refusal :=
  .next { s with trig := { s.trig with holdoff := 0 } }

/-- AUTO_TIMER_EXPIRY (R75). -/
def execAutoTimerExpiry (s : State) : Host.Outcome State Fault Refusal :=
  .next (match s.trig.autoTimer with
    | some _ => if s.acq.state = .ready then s.takeTrigger true else s
    | none => s)

/-- TRIG_OUT_PULSE_END (R79). -/
def execTrigOutPulseEnd (s : State) : Host.Outcome State Fault Refusal :=
  .next { s with trig := { s.trig with pulse := none } }

/-- PROBE_COMP_EDGE (R79): the square wave has its level at the base tick count (log 32). -/
def execProbeCompEdge (s : State) : Host.Outcome State Fault Refusal :=
  .next { s with trig := { s.trig with probe := probeLevel s.baseTick } }

/-! ## Rendering and frames (R114, R122, R128 to R130) -/

/-- RENDER_COLUMN_STEP (R114): taken once the column's samples have been read (R126). -/
def execRenderColumnStep (s : State) : Host.Outcome State Fault Refusal :=
  .next (match s.rend.render with
    | some r =>
      match r.chans[r.hand]? with
      | some m => if samplesNeeded r ≤ r.read then (s.columnStep r m).retryWait else s
      | none => s
    | none => s)

/-- A frame expiry told to the renderer: decay-due is set, and consumed at once by an idle renderer (R122, R123). -/
def State.tellDecay (s : State) : State :=
  let t := { s with rend := { s.rend with decayDue := true } }
  match s.rend.render with
  | some _ => t
  | none => t.consumeDecay

/-- The compositor's own part of a frame expiry (R128 steps 1 and 2, R129). -/
def State.startFrame (s : State) : State :=
  { s with comp := { s.comp with
    frameTimer := Config.frameTicks
    refresh := .front
    state := if s.comp.state = .waiting then .composing else s.comp.state
    build := if s.comp.state = .waiting then some s.buildInputs else s.comp.build
    built := if s.comp.state = .waiting then 0 else s.comp.built } }

/-- FRAME_EXPIRY (R128). -/
def execFrameExpiry (s : State) : Host.Outcome State Fault Refusal :=
  let t := s.startFrame.tellDecay
  .next { t with panel := t.panel.blink }

/-- BUILD_END (R130): a build ends once its last access has been served (R129, R172; log 21). -/
def execBuildEnd (s : State) : Host.Outcome State Fault Refusal :=
  .next (match s.comp.state, s.comp.build with
    | .composing, some _ => if screenWords ≤ s.comp.built then { s with comp := s.comp.endBuild } else s
    | _, _ => s)

/-! ## Power-on reset (R59, R163) -/

/-- POWER_ON_RESET: the straps are sampled, every block takes its reset values, the flash keeps what the operation cut
off has left, the first front-end frame is sent (log 10), and the scan begins (log 24). -/
def execPowerOnReset (straps : Straps) (written : Nat) (upset : FlashUpset) (s : State) :
    Host.Outcome State Fault Refusal :=
  .next { (State.resetWith straps (cutFlash s.store written upset)).feArbitrate.beginScan with pending := s.pending }

/-! ## An empty queue (log 2) -/

/-- One base tick of a running timer. -/
def tickTimer (t : Option Nat) : Option Nat := t.map (· - 1)

/-- One base tick of a tone. -/
def Tone.tick : Tone → Tone
  | .silent => .silent
  | .click f l => .click f (l - 1)
  | .error f l => .error f (l - 1)

/-- One base tick: the base tick count rises (R61), the PROBE_COMP wave follows it (R79), and every running timer has one
tick less. The last tick of a timer is its expiry's command; holdoff rests at 1 until then (logs 2 and 3). -/
def State.tick (s : State) : State :=
  { s with
    baseTick := s.baseTick + 1
    panel := { s.panel with scanTimer := s.panel.scanTimer - 1, tone := s.panel.tone.tick }
    fe := { s.fe with
      echoTimer := tickTimer s.fe.echoTimer
      chans := s.fe.chans.map fun c => { c with settle := tickTimer c.settle } }
    trig := { s.trig with
      holdoff := if s.trig.holdoff ≤ 1 then s.trig.holdoff else s.trig.holdoff - 1
      autoTimer := tickTimer s.trig.autoTimer
      pulse := tickTimer s.trig.pulse
      probe := probeLevel (s.baseTick + 1) }
    acq := { s.acq with decim := tickTimer s.acq.decim }
    comp := { s.comp with frameTimer := s.comp.frameTimer - 1 }
    store := { s.store with clockNext := s.store.clockNext - 1 } }

/-- What a step does on an empty queue: an event a scan has yielded is taken first; otherwise one base tick passes,
with the link arbiter and the beginning of the store's scan at their place (logs 2, 10 and 24). -/
def idle (s : State) : Host.Outcome State Fault Refusal :=
  match s.panel.due with
  | e :: _ => .next (s.takeEvent e)
  | [] => .next s.feArbitrate.beginScan.tick

end Sys2Proof.Machine
end

