-- ==== Sys2Proof/Machine/Dispatch.lean ====
section
/-!
DEFINITION. One arm for each command of the table: the call of its meaning.
-/

namespace Sys2Proof.Machine

open Sys2Proof

def exec (i : Instr) (s : State) : Host.Outcome State Fault Refusal :=
  match i with
  | .powerOnReset straps written upset => Sys2Proof.Machine.execPowerOnReset straps written upset s
  | .portReset p => Sys2Proof.Machine.execPortReset p s
  | .abort p => Sys2Proof.Machine.execAbort p s
  | .startWord p w => Sys2Proof.Machine.execStartWord p w s
  | .frameWord p w => Sys2Proof.Machine.execFrameWord p w s
  | .dataWord p w => Sys2Proof.Machine.execDataWord p w s
  | .checkWord p w => Sys2Proof.Machine.execCheckWord p w s
  | .wordRead p => Sys2Proof.Machine.execWordRead p s
  | .identify p => Sys2Proof.Machine.execIdentify p s
  | .getNotices p => Sys2Proof.Machine.execGetNotices p s
  | .setAttention p => Sys2Proof.Machine.execSetAttention p s
  | .setupRead p => Sys2Proof.Machine.execSetupRead p s
  | .setupWrite p => Sys2Proof.Machine.execSetupWrite p s
  | .setupExchange p => Sys2Proof.Machine.execSetupExchange p s
  | .defaultSetup p => Sys2Proof.Machine.execDefaultSetup p s
  | .lock p => Sys2Proof.Machine.execLock p s
  | .unlock p => Sys2Proof.Machine.execUnlock p s
  | .writeKeymap p => Sys2Proof.Machine.execWriteKeymap p s
  | .writeKnobmap p => Sys2Proof.Machine.execWriteKnobmap p s
  | .writeLedmap p => Sys2Proof.Machine.execWriteLedmap p s
  | .dataInCompletion p => Sys2Proof.Machine.execDataInCompletion p s
  | .beep p => Sys2Proof.Machine.execBeep p s
  | .triggerStatus p => Sys2Proof.Machine.execTriggerStatus p s
  | .runControl p => Sys2Proof.Machine.execRunControl p s
  | .runControlForce p => Sys2Proof.Machine.execRunControlForce p s
  | .hold p => Sys2Proof.Machine.execHold p s
  | .release p => Sys2Proof.Machine.execRelease p s
  | .readWaveform p => Sys2Proof.Machine.execReadWaveform p s
  | .segmentInfo p => Sys2Proof.Machine.execSegmentInfo p s
  | .showSegment p => Sys2Proof.Machine.execShowSegment p s
  | .clearDisplay p => Sys2Proof.Machine.execClearDisplay p s
  | .writeOverlay p => Sys2Proof.Machine.execWriteOverlay p s
  | .fillOverlay p => Sys2Proof.Machine.execFillOverlay p s
  | .writePalette p => Sys2Proof.Machine.execWritePalette p s
  | .readScreen p => Sys2Proof.Machine.execReadScreen p s
  | .saveSetup p => Sys2Proof.Machine.execSaveSetup p s
  | .recallSetup p => Sys2Proof.Machine.execRecallSetup p s
  | .eraseSetup p => Sys2Proof.Machine.execEraseSetup p s
  | .setStartup p => Sys2Proof.Machine.execSetStartup p s
  | .listSetups p => Sys2Proof.Machine.execListSetups p s
  | .setClock p => Sys2Proof.Machine.execSetClock p s
  | .scanTick keys encA encB => Sys2Proof.Machine.execScanTick keys encA encB s
  | .keyPress key => Sys2Proof.Machine.execKeyPress key s
  | .keyRelease key => Sys2Proof.Machine.execKeyRelease key s
  | .detent enc clockwise => Sys2Proof.Machine.execDetent enc clockwise s
  | .toneExpiry => Sys2Proof.Machine.execToneExpiry s
  | .ledPwmPeriod led => Sys2Proof.Machine.execLedPwmPeriod led s
  | .echo w => Sys2Proof.Machine.execEcho w s
  | .echoTimeout => Sys2Proof.Machine.execEchoTimeout s
  | .settleExpiry ch => Sys2Proof.Machine.execSettleExpiry ch s
  | .keptSample c1 c2 c3 c4 ext => Sys2Proof.Machine.execKeptSample c1 c2 c3 c4 ext s
  | .holdoffExpiry => Sys2Proof.Machine.execHoldoffExpiry s
  | .autoTimerExpiry => Sys2Proof.Machine.execAutoTimerExpiry s
  | .trigOutPulseEnd => Sys2Proof.Machine.execTrigOutPulseEnd s
  | .renderColumnStep => Sys2Proof.Machine.execRenderColumnStep s
  | .frameExpiry => Sys2Proof.Machine.execFrameExpiry s
  | .buildEnd => Sys2Proof.Machine.execBuildEnd s
  | .scanSectorReadEnd upset => Sys2Proof.Machine.execScanSectorReadEnd upset s
  | .firstWordMarkEnd => Sys2Proof.Machine.execFirstWordMarkEnd s
  | .eraseEnd upset => Sys2Proof.Machine.execEraseEnd upset s
  | .programEnd upset => Sys2Proof.Machine.execProgramEnd upset s
  | .verifyEnd upset => Sys2Proof.Machine.execVerifyEnd upset s
  | .recallReadEnd upset => Sys2Proof.Machine.execRecallReadEnd upset s
  | .clockRise => Sys2Proof.Machine.execClockRise s
  | .probeCompEdge => Sys2Proof.Machine.execProbeCompEdge s
  | .prstRelease p => Sys2Proof.Machine.execPrstRelease p s
  | .sampleMemoryAccess => Sys2Proof.Machine.execSampleMemoryAccess s
  | .frameBufferAccess => Sys2Proof.Machine.execFrameBufferAccess s

end Sys2Proof.Machine
end

