-- ==== Sys2Proof/Safety.lean ====
section
/-!
DEFINITION. The terms in which claims about the machine are made: what it is for a port to offer a request and to have
its answer, what a command leaves as it was, and the laws of the part that every step is to keep.
-/

namespace Sys2Proof.Machine

/-! ## Requests and answers -/

/-- The port offers a request of this kind with these parameters to its owning block (R167). -/
def Offers (s : State) (p : Port) (kind : BitVec 8) (ws : List Word) : Prop :=
  (s.port p).link = .executing ∧ (s.port p).staged = some ⟨kind, ws, false⟩

/-- The port holds an unread response with this code and these result words; its flags report LOST, the lock holder and
the run mode as they stand (R168, R183). -/
def Answered (t : State) (p : Port) (lost : Bool) (code : Code) (ws : List Word) : Prop :=
  (t.port p).link = .responding
    ∧ (t.port p).response = some
      ⟨[word code.number, flagsWord lost t.setup.holder t.acq.mode, word ws.length] ++ ws
        ++ [crcOf ([word code.number, flagsWord lost t.setup.holder t.acq.mode, word ws.length] ++ ws)], 0⟩

/-! ## What is left as it was -/

/-- Everything but the two ports is the same. -/
def RestSame (s t : State) : Prop := t = { s with portA := t.portA, portB := t.portB }

/-- The parts of a port that no request in flight owns are the same: acknowledge, words to be discarded, notice queue,
LOST, masks, holds, PRST and the word last read. -/
def PortKept (ps qs : PortState) : Prop :=
  qs.ack = ps.ack ∧ qs.discard = ps.discard ∧ qs.queue = ps.queue ∧ qs.lost = ps.lost ∧ qs.attnMask = ps.attnMask
    ∧ qs.noticeMask = ps.noticeMask ∧ qs.holds = ps.holds ∧ qs.prst = ps.prst ∧ qs.readWord = ps.readWord

/-- An answer on port `p` touched the other port not at all and this port only in what a request in flight owns. -/
def PortsKept (s t : State) (p : Port) : Prop :=
  t.port (otherPort p) = s.port (otherPort p) ∧ PortKept (s.port p) (t.port p)

/-- A port's state differs only by notices posted to it. -/
def Noticed (ps qs : PortState) : Prop := ∃ ns : List Notice, qs = ns.foldl PortState.takeNotice ps

/-- Both ports have taken these notices, in this order, and nothing else (R175). -/
def Posted (s t : State) (ns : List Notice) : Prop :=
  t.portA = ns.foldl PortState.takeNotice s.portA ∧ t.portB = ns.foldl PortState.takeNotice s.portB

/-- Both ports have taken these notices, and port `p` then an answer, which touched it only in what a request in flight
owns. -/
def PostedAnswered (s t : State) (p : Port) (ns : List Notice) : Prop :=
  t.port (otherPort p) = ns.foldl PortState.takeNotice (s.port (otherPort p))
    ∧ PortKept (ns.foldl PortState.takeNotice (s.port p)) (t.port p)

/-- The inner blocks alone have moved: front end, trigger, acquisition, renderer, the changed-while-stopped set, and
notices to the ports. -/
structure Inner (s t : State) : Prop where
  pending : t.pending = s.pending
  straps : t.straps = s.straps
  baseTick : t.baseTick = s.baseTick
  recs : t.setup.recs = s.setup.recs
  gen : t.setup.gen = s.setup.gen
  holder : t.setup.holder = s.setup.holder
  localDisabled : t.setup.localDisabled = s.setup.localDisabled
  panel : t.panel = s.panel
  comp : t.comp = s.comp
  store : t.store = s.store
  memLast : t.memLast = s.memLast
  fbLast : t.fbLast = s.fbLast
  portA : Noticed s.portA t.portA
  portB : Noticed s.portB t.portB

/-- Everything outside the inner blocks and the ports is the same, the records and the generation apart. -/
structure BlocksSame (s t : State) : Prop where
  pending : t.pending = s.pending
  straps : t.straps = s.straps
  baseTick : t.baseTick = s.baseTick
  holder : t.setup.holder = s.setup.holder
  localDisabled : t.setup.localDisabled = s.setup.localDisabled
  panel : t.panel = s.panel
  comp : t.comp = s.comp
  store : t.store = s.store
  memLast : t.memLast = s.memLast
  fbLast : t.fbLast = s.fbLast

/-- A request is answered with a code and result words, and nothing else moved: a refusal, or a plain reading. -/
def OnlyAnswered (s t : State) (p : Port) (code : Code) (ws : List Word) : Prop :=
  Answered t p (s.port p).lost code ws ∧ PortsKept s t p ∧ RestSame s t

/-- A port other than `p` holds the setup lock (R23). -/
def LockedOut (s : State) (p : Port) : Prop := s.setup.holder = some (otherPort p)

/-- A DATA_IN request has been accepted: the data phase begins at burst 0 with nothing counted (R167, R170). -/
def DataBegun (s t : State) (p : Port) (table : Option (List Word)) : Prop :=
  (t.port p).link = .dataIn ∧ (t.port p).staged = (s.port p).staged ∧ (t.port p).table = table
    ∧ (t.port p).burst = 0 ∧ (t.port p).inBurst = [] ∧ (t.port p).counted = 0 ∧ (t.port p).failed = none
    ∧ PortsKept s t p ∧ RestSame s t

/-- The segment that a reference word names: CURRENT, or an index (R184). -/
def named (s : State) (w : Word) : Option Nat := if w = 0xFFFF then s.acq.currentIdx else some w.toNat

/-- A reference word holds an index above 1999 (R184). -/
abbrev AboveAll (w : Word) : Prop := w ≠ 0xFFFF ∧ 1999 < w.toNat

/-- A run of map entries has been replaced from entry `first` on (R47 step 5). -/
def MapApplied {α : Type} (old new : List α) (first : Nat) (es : List (Option α)) : Prop :=
  new.length = old.length
    ∧ ∀ i < old.length, new[i]? = if first ≤ i ∧ i < first + es.length then es.getD (i - first) none else old[i]?

/-- A sector's words hold a good slot record of slot n (R148, R187). -/
abbrev GoodRecord (n : Nat) (ws : List Word) : Prop :=
  ws.getD 0 0 = 1 ∧ (ws.getD 1 0).toNat = n ∧ (ws.getD 14 0).toNat ≤ 128
    ∧ crcOf (ws.take (15 + 3 * (ws.getD 14 0).toNat)) = ws.getD (15 + 3 * (ws.getD 14 0).toNat) 0

/-- A sector's words hold a good startup record (R149, R187). -/
abbrev GoodStartup (ws : List Word) : Prop :=
  ws.getD 0 0 = 1 ∧ (ws.getD 1 0).toNat ≤ 16 ∧ crcOf (ws.take 2) = ws.getD 2 0

/-- The word that an upset flash access leaves or gives in place of `v` at word w of the sector: the last one named for
it (log 13). -/
def upsetWord (u : FlashUpset) (w : Nat) (v : Word) : Word := ((u.reverse.find? fun x => x.1 == w).map (·.2)).getD v

/-- The beeper's tone after an accepted press: 4 kHz for 5 ms when KEY_CLICK is ON and no error tone sounds (R28, R45). -/
def clickTone (s : State) : Tone :=
  if s.fieldVal 65 = 1 then
    match s.panel.tone with
    | .error f l => .error f l
    | _ => .click 4000 5000000
  else s.panel.tone

/-- The beeper's tone after an error request of 1 kHz for 150 ms that is made when BEEP is ON (R36, R45). -/
def errorTone (s : State) (tone : Tone) : Tone :=
  if s.fieldVal 66 = 1 then
    match tone with
    | .error f l => .error f l
    | _ => .error 1000 150000000
  else tone

/-! ## Front end (R50 to R55) -/

/-- The settings that a channel's fields give (R50): the attenuator and the gain code by CHn_SCALE, the coupling and the
bandwidth limit. -/
def SettingsOfFields (g : Settings) (scale coupling bw : Int) : Prop :=
  g.div100 = decide (8 < scale) ∧ g.gain = BitVec.ofInt 4 (if scale ≤ 8 then scale else scale - 6)
    ∧ g.coupling = BitVec.ofInt 2 coupling ∧ g.limit = decide (bw = 1)

/-- The word of a frame carries this tag, channel and settings, each at its bits (10.7, R186). -/
def FrameCarries (w : Word) (tag : BitVec 4) (n : Nat) (g : Settings) : Prop :=
  w.extractLsb' 12 4 = tag ∧ w.extractLsb' 10 2 = BitVec.ofNat 2 (n - 1) ∧ w.getLsbD 9 = g.div100
    ∧ w.extractLsb' 5 4 = g.gain ∧ w.extractLsb' 3 2 = g.coupling ∧ w.getLsbD 2 = g.limit
    ∧ w.extractLsb' 0 2 = 0

/-- The front end as channel n's frame has been sent on the free link (R50, R52): the next tag, the settings of the live
fields, the echo timer, channel n the last served, its update waiting for the echo, and no other channel touched. -/
def FrameSent (s : State) (f : FrontEnd) (n : Nat) : Prop :=
  ∃ g w, SettingsOfFields g (s.fieldVal (8 * (n - 1) + 1)) (s.fieldVal (8 * (n - 1) + 3)) (s.fieldVal (8 * (n - 1) + 4))
    ∧ FrameCarries w (s.fe.tag + 1) n g
    ∧ f = { s.fe with
      chans := f.chans, link := some ⟨n, w⟩, tag := s.fe.tag + 1, lastServed := n, echoTimer := some 200000 }
    ∧ ∀ i, f.chans[i]? = (s.fe.chans[i]?).map fun c =>
      if i = n - 1 then { c with upd := .awaitEcho, sent := g } else c

/-- The link arbiter has looked at the front end of s, which is now f (R52): with the link BUSY or with no channel WAITING
it has done nothing; otherwise it has sent the frame of the WAITING channel that comes first in the cyclic order after the
one last served. -/
def Arbitrated (s : State) (f : FrontEnd) : Prop :=
  let place : Nat → Nat := fun j => (s.fe.lastServed + j) % s.fe.chans.length
  let waits : Nat → Prop := fun j => ∃ c, s.fe.chans[place j]? = some c ∧ c.upd = .waiting
  ((s.fe.link.isSome = true ∨ ∀ c ∈ s.fe.chans, c.upd ≠ .waiting) → f = s.fe)
    ∧ ∀ k, s.fe.link = none → k < s.fe.chans.length → waits k → (∀ j < k, ¬ waits j) → FrameSent s f (place k + 1)

/-- The update of channel n has ended, and its record is now d: the link is FREE and the echo timer stopped (R54, R55), and
then the arbiter has looked at the link, which gives the front end f (R52). -/
def LinkFreed (s : State) (f : FrontEnd) (n : Nat) (d : ChanRec) : Prop :=
  Arbitrated { s with fe := { s.fe with link := none, echoTimer := none, chans := s.fe.chans.set (n - 1) d } } f

/-- A channel's record after one request for an update (R51). -/
def requestedRecord (c : ChanRec) : ChanRec :=
  match c.upd with
  | .idle => { c with upd := .waiting, attempt := 1, settle := none }
  | .waiting => c
  | .awaitEcho => { c with pendingLatest := true }

/-- The values f of a change ask channel n for an update: they alter its ENABLE, SCALE, COUPLING or BWLIMIT (R12). -/
def UpdateAsked (s : State) (f : Nat → Int) (n : Nat) : Prop :=
  1 ≤ n ∧ n ≤ (if s.straps.channels = .four then 4 else 2)
    ∧ ∃ q ∈ ([0, 1, 3, 4] : List Nat), f (8 * (n - 1) + q) ≠ s.fieldVal (8 * (n - 1) + q)

/-- The front end has been told of a change that leaves the values f (R12): a change that asks no channel for an update
leaves it as it was; otherwise each channel that is asked has taken one request, the others' records are as they were
(R51), and then the arbiter has looked at the link, with the new values live (R52). -/
def FrontEndTold (s t : State) (f : Nat → Int) : Prop :=
  ((∀ n, ¬ UpdateAsked s f n) → t.fe = s.fe)
    ∧ ((∃ n, UpdateAsked s f n) → ∃ g : FrontEnd, g = { s.fe with chans := g.chans }
      ∧ g.chans.length = s.fe.chans.length
      ∧ (∀ i c, s.fe.chans[i]? = some c →
        (UpdateAsked s f (i + 1) → g.chans[i]? = some (requestedRecord c))
          ∧ (¬ UpdateAsked s f (i + 1) → g.chans[i]? = some c))
      ∧ Arbitrated { t with fe := g } t.fe)

/-! ## Changes of the setup (R6 to R11) -/

/-- Step 3 of R7: a value v offered to a field comes within the field's fixed limits as w. -/
def BroughtWithin (st : Straps) (id : Nat) (v w : Int) : Prop :=
  match fieldSpec st id with
  | some ⟨_, .int lo hi, _⟩ => w = max lo (min hi v)
  | _ => w = v

/-- Step 4 of R7, in its order: VIEW_LENGTH (56), VIEW_START (57), SEGMENTS (35) and FRONT_CHANNEL (58) of the values g
come within their dependent limits as h, and every other field keeps its value. -/
def DependentsLimited (st : Straps) (g h : Nat → Int) : Prop :=
  h 56 = min (g 56) (g 33)
    ∧ h 57 = min (g 57) ((lengthOf (g 33) : Int) - lengthOf (h 56))
    ∧ h 35 = min (g 35) ((min 2000 ((if st.depth = .twentyMillion then 20000000 else 10000000) / lengthOf (g 33)) : Nat) : Int)
    ∧ h 58 = (if h (8 * ((g 58).toNat - 1)) = 1 then g 58
      else match [1, 2, 3, 4].find? fun n =>
          decide (n ≤ (if st.channels = .four then 4 else 2) ∧ g (8 * (n - 1)) = 1) with
        | some n => (n : Int)
        | none => g 58)
    ∧ ∀ id, id ∉ [56, 57, 35, 58] → h id = g id

/-- The generation after one more applied change (R11). -/
def generationAfter (g : BitVec 32) : BitVec 32 := if g = 4294967295 then 1 else g + 1

/-- The present fields whose value the values f alter, ascending (R10). -/
def alteredIds (s : State) (f : Nat → Int) : List Nat :=
  (presentIds s.straps).filter fun i => decide (f i ≠ s.fieldVal i)

/-- The notices of a change that leaves the values f: one for each altered field, in ascending id order, with its new
value, the new generation and the source (R10). -/
def changeNotices (s : State) (src : Source) (f : Nat → Int) : List Notice :=
  (alteredIds s f).map fun i => .setupChanged i (f i) (generationAfter s.setup.gen) src

/-- The values f of a change alter a field of the class (R12). -/
def AltersClass (s : State) (f : Nat → Int) (c : FieldClass) : Prop :=
  ∃ id ∈ presentIds s.straps, classOf s.straps id = some c ∧ f id ≠ s.fieldVal id

/-- The trigger unit's tracking state is cleared; nothing else of the unit is touched (R71). -/
def trackingCleared (x : Trig) : Trig :=
  { x with lowSeen := false, highSeen := false, wstate := .idle, wcount := 0, ext := .none, extCount := 0 }

/-- The trigger unit told of the TIMING and PANEL fields that the values f alter (R15, R17, R80, R81): a change of TRIG_MODE
in READY starts the auto timer with the AUTO_TIMEOUT now in force, or stops it; a change of AUX_SOURCE cuts the TRIG_OUT
pulse off, and one to PROBE_COMP gives the wave its level for the base tick count; nothing else of it moves. -/
def trigTold (s : State) (f : Nat → Int) : Trig :=
  { s.trig with
    autoTimer := if f 48 ≠ s.fieldVal 48 ∧ s.acq.state = .ready then
        (if f 48 = 0 then some ((f 50).toNat * 1000000) else none)
      else s.trig.autoTimer
    pulse := if f 67 = s.fieldVal 67 then s.trig.pulse else none
    probe := if f 67 ≠ s.fieldVal 67 ∧ f 67 = 1 then decide (s.baseTick.toNat % 1000000 < 500000) else s.trig.probe }

/-- The setup table has applied the values f of a change from a source (R10, R11): every field holds its value, the
generation has risen by one where a field differs, each altered record names the source and the new generation and every
other record is as it was, a change that alters nothing leaves everything as it was, and the blocks outside the change's
reach are left as they are in any case. The front end has taken the requests that the change asks for (R12, R51). A change
of TIMING and PANEL fields alone leaves the acquisition, the renderer and the changed-while-stopped set as they were, and
reaches the trigger unit as R15 and R17 say (R81). -/
structure Applied (s t : State) (src : Source) (f : Nat → Int) : Prop where
  values : ∀ i ∈ presentIds s.straps, t.fieldVal i = f i
  gen : t.setup.gen = if alteredIds s f = [] then s.setup.gen else generationAfter s.setup.gen
  recs : t.setup.recs = s.setup.recs.map fun r => if f r.id = r.value then r else ⟨r.id, f r.id, src, t.setup.gen⟩
  unaltered : alteredIds s f = [] → RestSame s t
  blocks : BlocksSame s t
  frontEnd : FrontEndTold s t f
  beside : ¬ AltersClass s f .acq → ¬ AltersClass s f .view →
    t.acq = s.acq ∧ t.rend = s.rend ∧ t.trig = trigTold s f ∧ t.setup.changed = s.setup.changed

/-- The values that the default setup leaves: every saved field at its default, the PANEL fields as they are (R21). -/
def defaultValues (s : State) : Nat → Int := fun i =>
  if classOf s.straps i = some .panel then s.fieldVal i else dfltOf s.straps i

/-- The field that a SET_FIELD action names now: by its id, or as field q of the front channel (R25, R34). -/
def fieldNamed (s : State) : FieldRef → Nat
  | .id i => i
  | .front q => 8 * ((s.fieldVal 58).toNat - 1) + q

/-- The pairs that CHANNEL(n) presents (R33): an OFF channel is switched ON and in front; an ON channel comes in front; the
front channel is switched OFF, and the lowest other channel that is ON comes in front, if there is one. -/
def channelEdit (s : State) (n : Nat) : List (Nat × Int) :=
  if s.fieldVal (8 * (n - 1)) = 1 then
    (if s.fieldVal 58 = n then
      [(8 * (n - 1), 0), (58, match [1, 2, 3, 4].find? fun m => decide (m ≠ n
          ∧ m ≤ (if s.straps.channels = .four then 4 else 2) ∧ s.fieldVal (8 * (m - 1)) = 1) with
        | some m => (m : Int)
        | none => (n : Int))]
    else [(58, (n : Int))])
  else [(8 * (n - 1), 1), (58, (n : Int))]

/-- The fast run of an encoder after a detent (R40): it counts the detents in one direction at most 40 scan ticks apart. -/
def fastRun (s : State) (e : Nat) (cw : Bool) : Nat :=
  let r := s.panel.encs.getD e ⟨none, 0, 41, true, 0⟩
  if cw = r.lastCw ∧ r.ticks ≤ 40 then min 255 (r.fast + 1) else 0

/-- A detent of encoder e is taken (R40): it waits no longer, and the encoder's record counts it. -/
def DetentCounted (s : State) (e : Nat) (cw : Bool) (u : State) : Prop :=
  u = { s with panel := { s.panel with due := s.panel.due.erase (.detent e cw), encs := u.panel.encs } }
    ∧ ∀ i, u.panel.encs[i]? = (s.panel.encs[i]?).map fun x =>
      if i = e then { x with fast := fastRun s e cw, lastCw := cw, ticks := 0 } else x

/-- The value v that a detent of encoder e presents for the field id (R40, R41): the step, accelerated after four fast
detents, times the direction, taken in members of an ENUM field, with TRIG_SOURCE going round, and in values of an INT
field. -/
def DetentValue (s : State) (e : Nat) (cw : Bool) (id : Nat) (v : Int) : Prop :=
  let entry := s.panel.knobmap.getD e ⟨.report, 0, 0⟩
  let d : Int := (if 4 ≤ fastRun s e cw then entry.accel else entry.step) * (if cw = true then 1 else -1)
  match fieldSpec s.straps id with
  | some ⟨_, .enum codes, _⟩ =>
    let place : Int := codes.idxOf (s.fieldVal id) + d
    ∃ k : Nat, codes[k]? = some v
      ∧ (k : Int) = if id = 41 then place % codes.length else max 0 (min (codes.length - 1) place)
  | _ => v = s.fieldVal id + d

/-- Keys that the panel variant scans (R26). -/
def keysOf (s : State) : Nat := if s.straps.panel = .l then 64 else 48

/-- Encoders that the panel variant scans (R26). -/
def encodersOf (s : State) : Nat := if s.straps.panel = .l then 8 else 6

/-- The command c, taken in the state s, applies a change that leaves the values f, and u is the state that it finds as it
does so, its own block's bookkeeping done: the request of a port that passes its checks (R19, R20, R21), the action of a key
or a detent of a knob that no lock and no validation refuses (R28, R33, R34, R41), or a recall's good record that no lock
refuses (R156). -/
def ChangeTaken (c : Instr) (s u : State) (f : Nat → Int) : Prop :=
  match c with
  | .setupWrite p => ∃ ws clamped, Offers s p kindSetupWrite ws ∧ u = s
      ∧ readPairs (ws.drop 2) ≠ [] ∧ (readPairs (ws.drop 2)).length ≤ 16 ∧ ((readPairs (ws.drop 2)).map Prod.fst).Nodup
      ∧ s.setup.holder ≠ some (otherPort p) ∧ (par32 ws 0 = 0 ∨ par32 ws 0 = s.setup.gen)
      ∧ validate s.straps s.fieldVal (readPairs (ws.drop 2)) = .ok (f, clamped)
  | .setupExchange p => ∃ ws clamped, Offers s p kindSetupExchange ws ∧ u = s ∧ s.setup.holder ≠ some (otherPort p)
      ∧ validate s.straps s.fieldVal [(parNat ws 0, (par32 ws 1).toInt)] = .ok (f, clamped)
  | .defaultSetup p => ∃ ws, Offers s p kindDefaultSetup ws ∧ u = s ∧ s.setup.holder ≠ some (otherPort p)
      ∧ f = defaultValues s
  | .keyPress k => k < keysOf s ∧ s.setup.holder = none
      ∧ u = { s with panel := { s.panel with due := s.panel.due.erase (.press k), tone := clickTone s } }
      ∧ match s.panel.keymap.getD k .none with
        | .dflt => f = defaultValues s
        | .channel n => n ≤ (if s.straps.channels = .four then 4 else 2)
            ∧ ∃ clamped, validate s.straps s.fieldVal (channelEdit s n) = .ok (f, clamped)
        | .setField r v => ∃ clamped, validate s.straps s.fieldVal [(fieldNamed s r, v)] = .ok (f, clamped)
        | _ => False
  | .detent e cw => e < encodersOf s ∧ s.setup.holder = none ∧ DetentCounted s e cw u
      ∧ ∃ id v clamped, DetentValue s e cw id v ∧ validate s.straps s.fieldVal [(id, v)] = .ok (f, clamped)
        ∧ match (s.panel.knobmap.getD e ⟨.report, 0, 0⟩).target with
          | .report => False
          | .fixed i => id = i
          | .front q => id = fieldNamed s (.front q)
  | .recallReadEnd upset => u = s ∧ s.store.state = .reading ∧ ∃ op n, s.store.op = some op ∧ op.kind = .recall
      ∧ op.slot = some n ∧ 1 ≤ n ∧ n ≤ 16 ∧ GoodRecord n (readSector s.store.flash upset n)
      ∧ (match op.orig with
        | .port p => s.setup.holder ≠ some (otherPort p)
        | _ => s.setup.holder = none)
      ∧ f = (recallChange s.straps s.fieldVal (recordPairs (readSector s.store.flash upset n))).1
  | _ => False

/-- A panel edit presented with no lock standing: refused by validation it sounds the error beep and changes nothing else;
otherwise it is applied and its notices are posted (R7, R10, R36). -/
def EditMade (u t : State) (src : Source) (pairs : List (Nat × Int)) : Prop :=
  match validate u.straps u.fieldVal pairs with
  | .error _ => t = { u with panel := { u.panel with tone := errorTone u u.panel.tone } }
  | .ok (f, _) => Applied u t src f ∧ Posted u t (changeNotices u src f)

/-- The setup table counts one change, or has made none: the generation and every record are as they were, or the
generation has risen by one, past 0, each record whose value is altered carries the new generation, and the others are as
they were (R10, R11). -/
def ChangeCounted (s t : State) : Prop :=
  (t.setup.gen = s.setup.gen ∧ t.setup.recs = s.setup.recs)
    ∨ (t.setup.gen = generationAfter s.setup.gen
      ∧ List.Forall₂ (fun r q => q = r ∨ (q.id = r.id ∧ q.value ≠ r.value ∧ q.gen = t.setup.gen))
        s.setup.recs t.setup.recs)

/-! ## Arming (R58, R85, R88 to R93) -/

/-- Every channel that is ON in the live setup is settled: no update, no pending request, no settle time (R58). -/
def FrontSettled (s : State) : Prop :=
  ∀ n, 1 ≤ n → n ≤ (if s.straps.channels = .four then 4 else 2) → s.fieldVal (8 * (n - 1)) = 1 →
    (s.fe.chan n).upd = .idle ∧ (s.fe.chan n).pendingLatest = false ∧ (s.fe.chan n).settle = none

/-- Slot i is available: its record is FREE, and its region under the live record length meets the region of no segment
that is not FREE (R85). -/
def SlotFree (s : State) (i : Nat) : Prop :=
  (s.acq.seg i).state = .free ∧ ∀ j, (s.acq.seg j).state ≠ .free →
    let n := lengthOf (s.fieldVal 33)
    let m := s.acq.segLength (s.acq.seg j)
    (i + 1) * n ≤ j * m ∨ (j + 1) * m ≤ i * n

/-- Slot i is the one that slot choice takes: the lowest available at or after the next-slot pointer, or, in RUN and
SINGLE with none there, the lowest available below it; a pointer at or above K is taken as 0 (R90, R91). -/
def SlotTaken (s : State) (i : Nat) : Prop :=
  let ptr := if s.acq.nextSlot < s.slots then s.acq.nextSlot else 0
  i < s.slots ∧ SlotFree s i
    ∧ (if ptr ≤ i then ∀ j, ptr ≤ j → j < i → ¬ SlotFree s j
      else s.acq.mode ≠ .sequence ∧ (∀ j, ptr ≤ j → j < s.slots → ¬ SlotFree s j) ∧ ∀ j < i, ¬ SlotFree s j)

/-- The current segment i is freed for its slot: in RUN and SINGLE, with no slot available, an index below K, no hold and
no render pending (R90 step 2). -/
def CurrentReused (s : State) (i : Nat) : Prop :=
  s.acq.mode ≠ .sequence ∧ (∀ j, ¬ SlotTaken s j) ∧ s.acq.currentIdx = some i ∧ i < s.slots
    ∧ (s.acq.seg i).holdsA = 0 ∧ (s.acq.seg i).holdsB = 0 ∧ (s.acq.seg i).pending = false

/-- The live values of the ACQ fields present on the part, ascending. -/
def liveAcqValues (s : State) : List (Nat × Int) := (acqIds s.straps).map fun i => (i, s.fieldVal i)

/-- Entry e serves as the snapshot, and `snaps` is the table with it filled: the newest entry where its values are the
live ones, otherwise the lowest entry that nothing refers to, filled with the live values and generation (R88 steps 1
and 2). -/
def EntryTaken (s : State) (e : Nat) (snaps : List Snap) : Prop :=
  let newestFits : Nat → Prop := fun k =>
    s.acq.newest = some k ∧ (s.acq.snaps.getD k Snap.initial).vals = liveAcqValues s
  (newestFits e ∧ snaps = s.acq.snaps)
    ∨ ((∀ k, ¬ newestFits k) ∧ (∃ n, s.acq.snaps[e]? = some n ∧ n.refs = 0)
      ∧ (∀ k n, k < e → s.acq.snaps[k]? = some n → n.refs ≠ 0)
      ∧ snaps = s.acq.snaps.set e ⟨0, s.setup.gen, liveAcqValues s⟩)

/-- Segment i has entered FILLING with entry e of the table `snaps` (R93, R88, R90 step 5): its record is new, with P and
the FE_FAULT flags of the enabled channels in FAULT; the entry has one reference more and is the newest; the pointer has
moved on; the decimator starts, and the tracking state is clear. With a pretrigger part the state is PRETRIG, and nothing
else of the trigger unit moves. With none it has passed to READY, with the auto timer started where TRIG_MODE is AUTO (R74),
or to POSTTRIG by a remembered FORCE, which is consumed, loads HOLDOFF, starts no auto timer and starts the TRIG_OUT pulse
(R72, R73, R77, R79, R94). -/
structure FillingEntered (s t : State) (i e : Nat) (snaps : List Snap) : Prop where
  inner : Inner s t
  seg : ∃ flt : BitVec 4,
    t.acq.seg i = ⟨.filling, some e, 0, 0, lengthOf (s.fieldVal 33) * (s.fieldVal 34).toNat / 100, false, 0, flt, 0, 0,
        false, false, 0⟩
      ∧ ∀ c : Fin 4, flt.getLsbD c = true ↔ (c : Nat) < (if s.straps.channels = .four then 4 else 2)
        ∧ s.fieldVal (8 * (c : Nat)) = 1 ∧ (s.fe.chan ((c : Nat) + 1)).fault = true
  others : ∀ j, j ≠ i → t.acq.seg j = s.acq.seg j
  acq : t.acq = { s.acq with
    segs := t.acq.segs, state := t.acq.state, newest := some e, fillCount := 0, postCount := 0, decim := some 1
    snaps := updateAt snaps e fun n => { n with refs := n.refs + 1 }
    nextSlot := if i + 1 = s.slots then 0 else i + 1 }
  trig : t.trig = if 0 < (t.acq.seg i).p then trackingCleared s.trig
    else if s.trig.forced = true then { trackingCleared s.trig with
      forced := false
      holdoff := (s.fieldVal 49).toNat * 10
      autoTimer := none
      pulse := if s.fieldVal 67 = 0 then some 100 else s.trig.pulse }
    else if s.fieldVal 48 = 0 then { trackingCleared s.trig with autoTimer := some ((s.fieldVal 50).toNat * 1000000) }
    else trackingCleared s.trig
  state : t.acq.state = if 0 < (t.acq.seg i).p then .pretrig else if s.trig.forced = true then .posttrig else .ready
  rest : t.fe = s.fe ∧ t.rend = s.rend ∧ t.setup = s.setup ∧ t.portA = s.portA ∧ t.portB = s.portB

/-- Segment i has been freed, in one act: its record is blank, its snapshot entry has one reference less, it has left the
sequence list and the render queue, and a render of it is abandoned (R87, R111). -/
def Freed (s u : State) (i : Nat) : Prop :=
  (∀ j, u.acq.seg j = if j = i then Seg.blank else s.acq.seg j)
    ∧ u = { s with
      acq := { s.acq with
        segs := u.acq.segs, seqList := s.acq.seqList.filter (· != i)
        snaps := match (s.acq.seg i).snap with
          | some e => updateAt s.acq.snaps e fun n => { n with refs := n.refs - 1 }
          | none => s.acq.snaps }
      rend := { s.rend with
        queue := s.rend.queue.filter (· != i)
        render := s.rend.render.filter fun r => r.seg != i } }

/-- An arm of the acquisition (R84, R89): with the front end unsettled it waits in SETTLING; settled, slot choice frees
the current segment where it is to be reused, and a segment enters FILLING where a slot and a snapshot can be had; the
state is WAIT_SEGMENT where they cannot. -/
def Armed (s t : State) : Prop :=
  (¬ FrontSettled s → t = { s with acq := { s.acq with state := .settling } })
    ∧ (FrontSettled s → ∃ u, (∀ i, CurrentReused s i → Freed s u i) ∧ ((∀ i, ¬ CurrentReused s i) → u = s)
      ∧ (∀ i e snaps, SlotTaken u i → EntryTaken u e snaps → FillingEntered u t i e snaps)
      ∧ (((∀ i, ¬ SlotTaken u i) ∨ ∀ e snaps, ¬ EntryTaken u e snaps) →
        t = { u with acq := { u.acq with state := .waitSegment } }))

/-! ## Laws of the part -/

/-- LOCAL_DISABLED is clear whenever the holder is NONE (R22). -/
def LockLaw (s : State) : Prop := s.setup.holder = none → s.setup.localDisabled = false

/-- The generation never takes the value 0 (R11). -/
def GenerationLaw (s : State) : Prop := s.setup.gen ≠ 0

/-- A notice queue holds at most 64 notices, with at most one for each coalescing key (R176). -/
def QueueLaw (q : List Notice) : Prop :=
  q.length ≤ Config.queueDepth ∧ q.Pairwise fun m n => sameKey m n = false

/-- Both notice queues obey R176. -/
def NoticeLaw (s : State) : Prop := QueueLaw s.portA.queue ∧ QueueLaw s.portB.queue

/-- A run mode is STOP exactly while the acquisition state is STOPPED (R84); at most one segment is FILLING, and one is
exactly in PRETRIG, READY and POSTTRIG (R93); at most one segment is current, and it is COMPLETE (R86). -/
def AcqLaw (s : State) : Prop :=
  (s.acq.mode = .stop ↔ s.acq.state = .stopped)
    ∧ ((∃ i, (s.acq.seg i).state = .filling) ↔ s.acq.state = .pretrig ∨ s.acq.state = .ready ∨ s.acq.state = .posttrig)
    ∧ (∀ i j, (s.acq.seg i).state = .filling → (s.acq.seg j).state = .filling → i = j)
    ∧ (∀ i j, (s.acq.seg i).current = true → (s.acq.seg j).current = true → i = j)
    ∧ ∀ i, (s.acq.seg i).current = true → (s.acq.seg i).state = .complete

/-- The snapshot table has 12 entries; each entry's reference count is the number of segments that are not FREE and refer
to it, every segment that is not FREE refers to an entry, a FREE record is blank, and the newest entry is one of the table
(R86, R88). -/
def SnapshotLaw (s : State) : Prop :=
  s.acq.snaps.length = 12
    ∧ (∀ e n, s.acq.snaps[e]? = some n →
      n.refs = s.acq.segs.countP fun c => decide (c.2.state ≠ .free ∧ c.2.snap = some e))
    ∧ (∀ i, (s.acq.seg i).state ≠ .free → ∃ e < 12, (s.acq.seg i).snap = some e)
    ∧ (∀ i, (s.acq.seg i).state = .free → s.acq.seg i = Seg.blank)
    ∧ ∀ e, s.acq.newest = some e → e < 12

/-- A port's holds obey R102, R103 and R164: at most 4; the count in each segment's record is that of the port's list; a
held segment is COMPLETE; and the implicit hold stands exactly while a READ_WAVEFORM has been accepted and not ended. -/
def PortHoldLaw (s : State) (p : Port) : Prop :=
  (s.port p).holds.length ≤ 4
    ∧ (∀ i, (s.acq.seg i).portHolds p = (s.port p).holds.countP fun h => h.seg == i)
    ∧ (∀ h ∈ (s.port p).holds, (s.acq.seg h.seg).state = .complete)
    ∧ ((s.port p).holds.filter fun h => h.implicit) = (match (s.port p).out with
      | some (.waveform i _ _ _) => [⟨i, true⟩]
      | _ => [])
    ∧ ((s.port p).out ≠ none → (s.port p).link = .responding ∨ (s.port p).link = .dataOut)

/-- Both ports' holds obey their law. -/
def HoldLaw (s : State) : Prop := PortHoldLaw s .a ∧ PortHoldLaw s .b

/-- Segment i is kept when k of its holds have been given back (R87): a port still holds it, or its index is below K and it
is current, render-pending or a member of the sequence list. -/
def KeptLess (s : State) (k i : Nat) : Prop :=
  k < (s.acq.seg i).holdsA + (s.acq.seg i).holdsB
    ∨ (i < s.slots ∧ ((s.acq.seg i).current = true ∨ (s.acq.seg i).pending = true ∨ i ∈ s.acq.seqList))

/-- Segment i is kept (R87). -/
def Kept (s : State) (i : Nat) : Prop := KeptLess s 0 i

/-- Every COMPLETE segment is kept (R87), and a record at or above K is FREE unless a port holds it (R86). -/
def KeptLaw (s : State) : Prop :=
  (∀ i, (s.acq.seg i).state = .complete → Kept s i)
    ∧ ∀ i, s.slots ≤ i → (s.acq.seg i).state = .free ∨ 0 < (s.acq.seg i).holdsA + (s.acq.seg i).holdsB

/-- The render queue holds at most 8 indices, none twice, and each names a COMPLETE segment that is render-pending (R108);
the segment of the render in flight is one too and not in the queue; no other segment is render-pending; and a renderer
with no render in flight has nothing waiting (R107). -/
def RenderQueueLaw (s : State) : Prop :=
  s.rend.queue.length ≤ 8 ∧ s.rend.queue.Nodup
    ∧ (∀ i, (i ∈ s.rend.queue ∨ ∃ r, s.rend.render = some r ∧ r.seg = i) →
      (s.acq.seg i).state = .complete ∧ (s.acq.seg i).pending = true)
    ∧ (∀ i, (s.acq.seg i).pending = true → i ∈ s.rend.queue ∨ ∃ r, s.rend.render = some r ∧ r.seg = i)
    ∧ (∀ r, s.rend.render = some r → r.seg ∉ s.rend.queue)
    ∧ (s.rend.render = none → s.rend.queue = [] ∧ s.rend.decayDue = false)

/-- One operation at most is in flight: no operation record stands in IDLE, and one stands in every other state but for the
SCANNING whose scan has read nothing yet, as a reset leaves it (log 24). The record is of kind SCAN, and without a setup
slot, exactly while the store is SCANNING (R146, R147). -/
def StoreLaw (s : State) : Prop :=
  (s.store.state = .idle → s.store.op = none)
    ∧ (s.store.op = none → s.store.state = .idle ∨ (s.store.state = .scanning ∧ s.store.scanAt = 1))
    ∧ ∀ op, s.store.op = some op → (op.kind = .scan ↔ s.store.state = .scanning) ∧ (op.kind = .scan ↔ op.slot = none)

/-- While a build is in hand, and only then, the compositor composes, and the words it has written to the back buffer are
those of the build's image, pixel by pixel from the first (R127, R129, R172). -/
def BuildLaw (s : State) : Prop :=
  (s.comp.build ≠ none ↔ s.comp.state = .composing) ∧ s.comp.built ≤ 384000
    ∧ ∀ b, s.comp.build = some b → ∀ k < s.comp.built, Cells.get 0 s.comp.back k = pixelAt b (k % 800) (k / 800)

/-- Every addressed memory is in its canonical form. -/
def MemoryLaw (s : State) : Prop :=
  Cells.wf Seg.blank s.acq.segs = true ∧ Cells.wf (0 : Byte) s.acq.samples = true
    ∧ Cells.wf (0 : Byte) s.rend.rasters = true ∧ Cells.wf (0 : Word) s.comp.front = true
    ∧ Cells.wf (0 : Word) s.comp.back = true ∧ Cells.wf (0 : BitVec 4) s.comp.ovA.plane = true
    ∧ Cells.wf (0 : BitVec 4) s.comp.ovB.plane = true ∧ Cells.wf erasedWord s.store.flash = true

/-- A value lies in the range the field table gives the field (R2 to R4). -/
def inRange (st : Straps) (id : Nat) (v : Int) : Bool :=
  match fieldSpec st id with
  | some ⟨_, .enum codes, _⟩ => codes.contains v
  | some ⟨_, .int lo hi, _⟩ => decide (lo ≤ v) && decide (v ≤ hi)
  | none => true

/-- The dependent limits of R4 hold of a value map. -/
def DependentLimits (st : Straps) (f : Nat → Int) : Prop :=
  f fidViewLength ≤ f fidRecordLength
    ∧ f fidViewStart ≤ (lengthOf (f fidRecordLength) : Int) - lengthOf (f fidViewLength)
    ∧ f fidSegments ≤ slotCount st (lengthOf (f fidRecordLength))
    ∧ (enabledUnder st f ≠ [] → f (chanField (f fidFront).toNat 0) = 1)
    ∧ f fidWidthLow ≤ f fidWidthHigh

/-- The setup table holds one record for each present field, ascending, every value in its range and within the
dependent limits (R1, R7). -/
def SetupLaw (s : State) : Prop :=
  s.setup.recs.map (·.id) = presentIds s.straps
    ∧ (∀ id ∈ presentIds s.straps, inRange s.straps id (s.fieldVal id) = true)
    ∧ DependentLimits s.straps s.fieldVal

/-- The channel records, the link and the segment that fills agree. Each channel of the part has a record (R49); the link
is BUSY exactly while one channel is in AWAIT_ECHO, with that channel's frame (R52); a request is pending only in AWAIT_ECHO
(R51), and a settle timer runs only in IDLE (R57). With no request pending, a frame in flight carries the settings of the
live fields; a channel in IDLE has confirmed the settings of the live fields or is in FAULT (R58). While a segment is
FILLING every channel that is ON is settled, and the segment's snapshot holds the live values (R58, R88, R93). -/
def SettledLaw (s : State) : Prop :=
  let count := if s.straps.channels = .four then 4 else 2
  s.fe.chans.length = count
    ∧ (∀ f, s.fe.link = some f → 1 ≤ f.chan ∧ f.chan ≤ count ∧ (s.fe.chan f.chan).upd = .awaitEcho)
    ∧ (∀ n, 1 ≤ n → n ≤ count →
      let c := s.fe.chan n
      let current : Settings → Prop := fun g => SettingsOfFields g (s.fieldVal (8 * (n - 1) + 1))
        (s.fieldVal (8 * (n - 1) + 3)) (s.fieldVal (8 * (n - 1) + 4))
      (c.upd = .awaitEcho → ∃ f, s.fe.link = some f ∧ f.chan = n)
        ∧ (c.pendingLatest = true → c.upd = .awaitEcho) ∧ (c.settle ≠ none → c.upd = .idle)
        ∧ (c.upd = .awaitEcho → c.pendingLatest = false → current c.sent)
        ∧ (c.upd = .idle → c.fault = true ∨ ∃ g, c.confirmed = some g ∧ current g))
    ∧ (s.acq.state = .pretrig ∨ s.acq.state = .ready ∨ s.acq.state = .posttrig → FrontSettled s)
    ∧ ∀ i, (s.acq.seg i).state = .filling → (s.acq.snapOf (s.acq.seg i)).vals = liveAcqValues s

/-- The PROBE_COMP wave stands at its level for the base tick count (R79). -/
def ProbeLaw (s : State) : Prop := s.trig.probe = decide (s.baseTick.toNat % 1000000 < 500000)

/-! ## Run modes (R82, R83, R100, R101) -/

/-- The notices of a change of the run mode: SEQUENCE from RUN or SINGLE passes through STOP (R83). -/
def modeNotices (s : State) (m : RunMode) : List Notice :=
  if m = .sequence ∧ s.acq.mode ≠ .stop then [.runState .stop, .runState .sequence] else [.runState m]

/-- The states in which an arm can leave the acquisition: SETTLING while the front end is unsettled, and otherwise one of
those that slot choice leads to (R84, R89). -/
def ArmLeft (s t : State) : Prop :=
  (¬ FrontSettled s → t.acq.state = .settling)
    ∧ (FrontSettled s → t.acq.state = .waitSegment ∨ t.acq.state = .pretrig ∨ t.acq.state = .ready
      ∨ t.acq.state = .posttrig)

/-- Segment j is kept by something other than the sequence list (R87). -/
def KeptBeside (s : State) (j : Nat) : Prop :=
  0 < (s.acq.seg j).holdsA + (s.acq.seg j).holdsB
    ∨ (j < s.slots ∧ ((s.acq.seg j).current = true ∨ (s.acq.seg j).pending = true))

/-- The run mode has changed to m from another one (R82, R83). Entering STOP frees the filling segment, clears the tracking
state, cancels the trigger unit's holdoff, auto timer and remembered FORCE, and leaves every other segment, with its holds
and flags, the sequence list, the render queue, a render in flight and the rasters as they are (R71, R101). Leaving STOP
empties the changed-while-stopped set and begins an arm (R14, R89). Between RUN, SINGLE and from SEQUENCE the filling segment
fills on. RUN and SINGLE empty the sequence list, and a former member that nothing keeps any longer is freed (R83, R87):
where no slot is chosen in the act, such members alone are touched. SEQUENCE frees the filling segment and every COMPLETE
segment without a hold, begins with an empty list, a count of 0 and the pointer at 0, and arms; from RUN and SINGLE it passes
through STOP, for the trigger unit too (R100). -/
structure ModeSet (s t : State) (m : RunMode) : Prop where
  mode : t.acq.mode = m
  blocks : BlocksSame s t
  setup : t.setup.recs = s.setup.recs ∧ t.setup.gen = s.setup.gen ∧ t.fe = s.fe
  acq : t.acq.counter = s.acq.counter ∧ t.acq.samples = s.acq.samples
  stop : m = .stop → t.acq.state = .stopped ∧ t.acq.decim = none
    ∧ t.trig = { trackingCleared s.trig with holdoff := 0, autoTimer := none, forced := false }
    ∧ t.setup.changed = s.setup.changed ∧ t.acq.seqCount = s.acq.seqCount
    ∧ t.acq.newest = s.acq.newest ∧ t.acq.nextSlot = s.acq.nextSlot
    ∧ (∀ i, s.acq.fillingIdx = some i → t.acq.seg i = Seg.blank)
    ∧ (∀ j, s.acq.fillingIdx ≠ some j →
      t.acq.seg j = s.acq.seg j ∧ (j ∈ t.acq.seqList ↔ j ∈ s.acq.seqList))
    ∧ (RenderQueueLaw s → t.rend = s.rend)
  leaves : m ≠ .stop → s.acq.mode = .stop → t.setup.changed = [] ∧ ArmLeft s t
  runsOn : (m = .run ∨ m = .single) → s.acq.mode ≠ .stop → t.setup.changed = s.setup.changed
    ∧ (s.acq.state ≠ .waitSegment → t.acq.state = s.acq.state
      ∧ ∀ i, s.acq.fillingIdx = some i → (t.acq.seg i).state = .filling)
  active : m = .run ∨ m = .single → t.acq.seqList = []
  members : m = .run ∨ m = .single → ∀ j ∈ s.acq.seqList, (s.acq.seg j).state = .complete →
    (¬ KeptBeside s j → (t.acq.seg j).state ≠ .complete)
      ∧ (0 < (s.acq.seg j).holdsA + (s.acq.seg j).holdsB → (t.acq.seg j).state = .complete)
  others : m = .run ∨ m = .single → (if s.acq.mode = .stop then ¬ FrontSettled s else s.acq.state ≠ .waitSegment) →
    RenderQueueLaw s → KeptLaw s →
    let freed : Nat → Prop := fun j => j ∈ s.acq.seqList ∧ (s.acq.seg j).state = .complete ∧ ¬ KeptBeside s j
    t.rend = s.rend ∧ t.trig = s.trig ∧ (∀ j, freed j → t.acq.seg j = Seg.blank)
      ∧ ∀ j, ¬ freed j → t.acq.seg j = s.acq.seg j
  sequence : m = .sequence → t.setup.changed = [] ∧ t.acq.seqList = [] ∧ t.acq.seqCount = 0 ∧ ArmLeft s t
    ∧ (t.acq.state = .settling → t.acq.nextSlot = 0)
    ∧ (s.acq.mode ≠ .stop → t.trig = { trackingCleared s.trig with
      holdoff := 0
      forced := false
      autoTimer := if t.acq.state = .ready ∧ s.fieldVal 48 = 0 then some ((s.fieldVal 50).toNat * 1000000) else none })
    ∧ ∀ j, (s.acq.seg j).state = .complete →
      ((t.acq.seg j).state = .complete ↔ 0 < (s.acq.seg j).holdsA + (s.acq.seg j).holdsB)

/-! ## Data out (R103, R145, R159, R169) -/

/-- Data words of a DATA_OUT request: two samples a word, a word a pixel, or the directory's words. -/
def wordsOf : DataOut → Nat
  | .waveform _ _ _ c => (c + 1) / 2
  | .screen => 384000
  | .list l => l.length

/-- Data word k of a DATA_OUT request, from its source: the earlier of two samples above the later, with a zero below the
last of an odd count. -/
def dataWordAt (s : State) (d : DataOut) (k : Nat) : Word :=
  match d with
  | .waveform i n st c =>
    s.acq.sample i n (st + 2 * k) ++ (if 2 * k + 1 < c then s.acq.sample i n (st + 2 * k + 1) else 0)
  | .screen => Cells.get 0 s.comp.front k
  | .list l => l.getD k 0

/-- A word read of a port's DATA_OUT waits for words of a shared memory: the frame buffers, or else sample memory (R165,
R171, R172). -/
def WantsWords (ps : PortState) (screen : Bool) : Prop :=
  ps.link = .dataOut ∧ ps.waiting = true
    ∧ ((screen = true ∧ ps.out = some .screen) ∨ (screen = false ∧ ∃ i n st c, ps.out = some (.waveform i n st c)))

/-- A port that has been served: up to 16 words of its data have come in, and the read that waited has been given the
first (R165, R169, R171, R172). -/
def ServedPort (s : State) (p : Port) (qs : PortState) : Prop :=
  let ps := s.port p
  let k := 512 * ps.burst + ps.word
  ∃ d, ps.out = some d ∧ qs = { ps with
    fetched := min 16 (wordsOf d - k) - 1, waiting := false, word := ps.word + 1
    readWord := dataWordAt s d k, crc := crcWord ps.crc (dataWordAt s d k) }

/-- The compositor after a screen read has ended: the screen-read count has fallen by one, and at 0 in FLIP_HELD the buffers
have flipped in the same act (R130, R145; the buffer that a refresh reads: log 31). -/
def ScreenReadEnded (c d : Compositor) : Prop :=
  (c.reads ≤ 1 ∧ c.state = .flipHeld → d = { c with
      reads := 0, state := .waiting, front := c.back, back := c.front, build := none, built := 0
      refresh := match c.refresh with
        | .none => .none
        | .front => .back
        | .back => .front })
    ∧ (¬ (c.reads ≤ 1 ∧ c.state = .flipHeld) → d = { c with reads := c.reads - 1 })

/-- Nothing of a request in flight is left in the port but its response (R164, R173). -/
def RequestGone (ps : PortState) : Prop :=
  ps.staged = none ∧ ps.out = none ∧ ps.table = none ∧ ps.failed = none ∧ ps.header = 0 ∧ ps.rx = [] ∧ ps.inBurst = []
    ∧ ps.counted = 0 ∧ ps.burst = 0 ∧ ps.word = 0 ∧ ps.fetched = 0 ∧ ps.waiting = false

/-! ## Readout texts (R137 to R140) -/

/-- The text of a value, given in billionths of its unit, as R137 writes it: three significant digits, a half rounded up, a
prefix for the exponent (index 0 to 4 of n, µ, m, none and k), and the unit. `h` is the rounded mantissa in hundredths. -/
def ValueWritten (x : Int) (unit : Char) (cs : List Char) : Prop :=
  let a := x.natAbs
  let digit : Nat → Char := fun k => Char.ofNat (48 + k % 10)
  (x = 0 → cs = ['0', '.', '0', '0', unit])
    ∧ (x ≠ 0 → ∃ e h : Nat, e ≤ 4 ∧ 1000 ^ e ≤ a ∧ (e < 4 → a < 1000 ^ (e + 1))
      ∧ (a < 10 * 1000 ^ e → 2 * 1000 ^ e * h ≤ 200 * a + 1000 ^ e ∧ 200 * a + 1000 ^ e < 2 * 1000 ^ e * (h + 1))
      ∧ (10 * 1000 ^ e ≤ a → a < 100 * 1000 ^ e → ∃ k, h = 10 * k
        ∧ 2 * 1000 ^ e * k ≤ 20 * a + 1000 ^ e ∧ 20 * a + 1000 ^ e < 2 * 1000 ^ e * (k + 1))
      ∧ (100 * 1000 ^ e ≤ a → ∃ k, h = 100 * k
        ∧ 2 * 1000 ^ e * k ≤ 2 * a + 1000 ^ e ∧ 2 * a + 1000 ^ e < 2 * 1000 ^ e * (k + 1))
      ∧ let carried : Prop := 100000 ≤ h ∧ e < 4
        ∃ m f : Nat, (carried → m = 100 ∧ f = e + 1) ∧ (¬ carried → m = h ∧ f = e)
          ∧ cs = (if x < 0 then ['−'] else [])
            ++ (if m < 1000 then [digit (m / 100), '.', digit (m / 10), digit m]
              else if m < 10000 then [digit (m / 1000), digit (m / 100), '.', digit (m / 10)]
              else [digit (m / 10000), digit (m / 1000), digit (m / 100)])
            ++ [['n'], ['µ'], ['m'], [], ['k']].getD f [] ++ [unit])

/-- Volts a division at the probe tip of channel n, in billionths: those of CHn_SCALE times the factor of CHn_PROBE (R138). -/
def tipVoltsOf (b : BuildInputs) (n : Nat) : Int :=
  ([1, 2, 5, 10, 20, 50, 100, 200, 500, 1000, 2000, 5000, 10000].getD (b.val (8 * (n - 1) + 1)).toNat 0
    * [1, 10, 100].getD (b.val (8 * (n - 1) + 5)).toNat 0 * 1000000 : Nat)

/-- A mark is written when one of these fields is in the changed-while-stopped set that the build took (R138 to R140). -/
def changedMark (b : BuildInputs) (ids : List Nat) : List Char := if ∃ i ∈ ids, i ∈ b.changed then ['*'] else []

/-- The channel item of channel n (R138). -/
def ChannelText (b : BuildInputs) (n : Nat) (cs : List Char) : Prop :=
  ∃ v, ValueWritten (tipVoltsOf b n) 'V' v
    ∧ cs = [Char.ofNat (48 + n), ' '] ++ v
      ++ [if b.val (8 * (n - 1) + 3) = 0 then '=' else if b.val (8 * (n - 1) + 3) = 1 then '~' else 'G']
      ++ (if (b.current.any fun c => c.1.getLsbD (n - 1)) = true then ['!'] else [])
      ++ (if (b.current.any fun c => c.2.getLsbD (n - 1)) = true then ['F'] else [])
      ++ changedMark b [8 * (n - 1), 8 * (n - 1) + 1, 8 * (n - 1) + 3, 8 * (n - 1) + 4]

/-- The time item (R139): k x V / 10 nanoseconds. -/
def TimeText (b : BuildInputs) (cs : List Char) : Prop :=
  ∃ (x : Nat) (v : List Char), 10 * x = intervalOf (b.val 32) * lengthOf (b.val 56) ∧ ValueWritten x 's' v
    ∧ cs = v ++ changedMark b [32, 33, 34, 35]

/-- The trigger item (R139). -/
def TriggerText (b : BuildInputs) (cs : List Char) : Prop :=
  let n := (b.val 41).toNat + 1
  let slope := if b.val 42 = 0 then '/' else if b.val 42 = 1 then '\\' else 'X'
  let kind := if b.val 40 = 1 then ['W'] else []
  let mark := changedMark b [40, 41, 42, 43, 44, 45, 46, 47, 51]
  (b.val 41 = 4 → cs = ['E', 'X', 'T', ' '] ++ kind ++ [slope] ++ mark)
    ∧ (b.val 41 ≠ 4 → ∃ (x : Int) (v : List Char), 25 * x = (b.val 43 - 128) * tipVoltsOf b n ∧ ValueWritten x 'V' v
      ∧ cs = ['C', 'H', Char.ofNat (48 + n), ' '] ++ kind ++ [slope, ' '] ++ v ++ mark)

/-- The run-mode item (R140). -/
def runModeText (b : BuildInputs) : List Char :=
  (match b.mode with
    | .stop => ['S', 'T', 'O', 'P']
    | .run => ['R', 'U', 'N']
    | .single => ['S', 'I', 'N', 'G', 'L', 'E']
    | .sequence => ['S', 'E', 'Q', 'U', 'E', 'N', 'C', 'E']) ++ (if b.changed = [] then [] else ['*'])

/-- The lock item (R140). -/
def lockText (b : BuildInputs) : List Char :=
  match b.holder with
  | none => []
  | some .a => ['L', 'O', 'C', 'K', ' ', 'A']
  | some .b => ['L', 'O', 'C', 'K', ' ', 'B']

/-! ## Renders (R112, R113) -/

/-- The render record of segment i as it is taken: the window fitted to the segment's own length, the channels of its
snapshot with the live positions and inversions, the first column of the first channel (R112, R113). -/
def RenderFormed (s : State) (i : Nat) (r : Render) : Prop :=
  let n := s.acq.segLength (s.acq.seg i)
  let len := min (lengthOf (s.fieldVal 56)) n
  r.seg = i ∧ r.len = len ∧ r.start = min (s.fieldVal 57).toNat (n - len) ∧ r.bin = len / 500
    ∧ r.chans = ((s.acq.segChannels (s.acq.seg i)).map fun c =>
      ⟨c, s.fieldVal (8 * (c - 1) + 2), decide (s.fieldVal (8 * (c - 1) + 6) = 1)⟩)
    ∧ r.hand = 0 ∧ r.col = 0 ∧ r.prevRow = none ∧ r.read = 0

/-- The renderer has taken the first segment of the list q that has a channel to draw, and the rest of q waits: those before
it, with none, are done with as they are taken (R112, R114). -/
def RenderTaken (s u : State) (q : List Nat) : Prop :=
  ∃ skipped : List Nat,
    q = skipped ++ (u.rend.render.map (·.seg)).toList ++ u.rend.queue
      ∧ (∀ j ∈ skipped, s.acq.segChannels (s.acq.seg j) = [])
      ∧ (u.rend.render = none → u.rend.queue = [])
      ∧ ∀ r, u.rend.render = some r → s.acq.segChannels (s.acq.seg r.seg) ≠ [] ∧ RenderFormed u r.seg r

/-- A VIEW change without an ACQ field has been taken, the retry of slot choice apart (R16): the rasters are clear, the
render in flight is abandoned, with its segment freed where nothing keeps it, the current segment is queued where it was not,
the oldest being dropped from a full queue (R110), and the renderer goes on from the queue under the new values (R109, R112,
R115, R118). The acquisition and the segment that fills stay as they were, and the trigger unit moves as R15 and R17 say. -/
structure ViewTold (s u : State) (f : Nat → Int) : Prop where
  blocks : BlocksSame s u
  cleared : (∀ a, Cells.get 0 u.rend.rasters a = 0) ∧ u.rend.decayDue = false
  requeued : ∀ i, (s.acq.seg i).current = true → (i < s.slots ∨ 0 < (s.acq.seg i).holds) →
    RenderTaken s u (if i ∈ s.rend.queue then s.rend.queue
      else (if s.rend.queue.length < 8 then s.rend.queue else s.rend.queue.drop 1) ++ [i])
  goesOn : (∀ i, (s.acq.seg i).current = false) → RenderTaken s u s.rend.queue
  abandoned : ∀ r, s.rend.render = some r → (s.acq.seg r.seg).current = false →
    let kept : Prop := 0 < (s.acq.seg r.seg).holds ∨ (r.seg < s.slots ∧ r.seg ∈ s.acq.seqList)
    (kept → u.acq.seg r.seg = { s.acq.seg r.seg with pending := false }) ∧ (¬ kept → u.acq.seg r.seg = Seg.blank)
  current : ∀ i, (s.acq.seg i).current = true → (i < s.slots ∨ 0 < (s.acq.seg i).holds) →
    u.acq.seg i = { s.acq.seg i with pending := (u.acq.seg i).pending }
  filling : ∀ j, (s.acq.seg j).state = .filling → u.acq.seg j = s.acq.seg j
  acq : u.acq = { s.acq with segs := u.acq.segs, snaps := u.acq.snaps, seqList := u.acq.seqList }
  trig : u.trig = trigTold s f
  rest : u.fe = s.fe ∧ u.setup.changed = s.setup.changed

/-- Slot choice is retried where v waits for a segment, and the act ends there (R92; log 27). -/
def Retried (v t : State) : Prop :=
  (v.acq.state = .waitSegment → Armed v t) ∧ (v.acq.state ≠ .waitSegment → t = v)

/-- The display has been cleared, the retry of slot choice apart (R125): every count of the rasters is 0, the render in
flight is abandoned and its segment is no longer render-pending, and is freed where nothing else keeps it; the renderer goes
on from the queue, which stays; the current segment stays, and every other segment but those that the renderer is done with
as it takes them, since they have no channel to draw (R87, R112, R115, R118). -/
structure DisplayCleared (s v : State) : Prop where
  same : v = { s with acq := v.acq, rend := v.rend }
  acq : v.acq = { s.acq with segs := v.acq.segs, snaps := v.acq.snaps, seqList := v.acq.seqList }
  cleared : (∀ a, Cells.get 0 v.rend.rasters a = 0) ∧ v.rend.decayDue = false
  goesOn : RenderTaken s v s.rend.queue
  abandoned : ∀ r, s.rend.render = some r →
    let g := s.acq.seg r.seg
    let kept : Prop := 0 < g.holdsA + g.holdsB ∨ (r.seg < s.slots ∧ (g.current = true ∨ r.seg ∈ s.acq.seqList))
    (kept → v.acq.seg r.seg = { g with pending := false }) ∧ (¬ kept → v.acq.seg r.seg = Seg.blank)
  current : ∀ i, (s.acq.seg i).current = true → (i < s.slots ∨ 0 < (s.acq.seg i).holdsA + (s.acq.seg i).holdsB) →
    v.acq.seg i = { s.acq.seg i with pending := (v.acq.seg i).pending }
  others : ∀ j, (∀ r, s.rend.render = some r → r.seg ≠ j) →
    (j ∉ s.rend.queue ∨ s.acq.segChannels (s.acq.seg j) ≠ []) → v.acq.seg j = s.acq.seg j

/-- Port p has given back n i holds of each segment i, the retry of slot choice apart (R87, R102). A segment that something
still keeps stays COMPLETE with that many holds less; one that nothing keeps is freed, leaves the render queue, and a render
of it is abandoned (R111, R115). Where a render was abandoned the renderer goes on from the queue (R112); otherwise it is
left alone. Every other segment stays but those that it is done with as it takes them, since they have no channel to draw. -/
structure HoldsGivenBack (s v : State) (p : Port) (n : Nat → Nat) : Prop where
  acq : v.acq = { s.acq with segs := v.acq.segs, snaps := v.acq.snaps, seqList := v.acq.seqList }
  alone : v.trig = s.trig ∧ v.fe = s.fe
  freed : ∀ i, 0 < n i → ¬ KeptLess s (n i) i → v.acq.seg i = Seg.blank
  stays : ∀ i, (n i = 0 ∨ KeptLess s (n i) i) → (i ∉ s.rend.queue ∨ s.acq.segChannels (s.acq.seg i) ≠ []) →
    v.acq.seg i = (s.acq.seg i).updHolds p (· - n i)
  renderer : ∃ q : List Nat, q.Sublist s.rend.queue
    ∧ (∀ i, i ∈ q ↔ i ∈ s.rend.queue ∧ (n i = 0 ∨ KeptLess s (n i) i))
    ∧ ((∀ r, s.rend.render = some r → n r.seg = 0 ∨ KeptLess s (n r.seg) r.seg) → v.rend = { s.rend with queue := q })
    ∧ ∀ r, s.rend.render = some r → 0 < n r.seg → ¬ KeptLess s (n r.seg) r.seg →
      RenderTaken s v q ∧ v.rend.decayDue = false

/-- What a change that leaves the values f, taken in the state s, has done beyond the setup table, t being the state after
it. The front end has taken its requests, and a change of TIMING and PANEL fields alone has reached only the trigger unit
(R12, R15, R17, R80, R81). A VIEW change without an ACQ field has cleared the rasters, abandoned the render in flight and
queued the current segment (R16), and in WAIT_SEGMENT slot choice has been retried (R92). The other fields say what an ACQ
change does while the part runs (R13) and what any change does in STOP (R14). -/
structure Disposed (s t : State) (f : Nat → Int) : Prop where
  frontEnd : FrontEndTold s t f
  beside : ¬ AltersClass s f .acq → ¬ AltersClass s f .view →
    t.acq = s.acq ∧ t.rend = s.rend ∧ t.trig = trigTold s f ∧ t.setup.changed = s.setup.changed
  viewed : ¬ AltersClass s f .acq → AltersClass s f .view → ∃ u v : State, ViewTold s u f ∧ u.setup = t.setup
    ∧ Retried u v ∧ t.acq = v.acq ∧ t.rend = v.rend ∧ t.trig = v.trig ∧ t.fe = v.fe
  restarted : AltersClass s f .acq → s.acq.mode ≠ .stop →
    t.rend.queue = [] ∧ t.rend.render = none ∧ (∀ a, Cells.get 0 t.rend.rasters a = 0) ∧ t.rend.decayDue = false
      ∧ (∀ i, (t.acq.seg i).pending = false)
      ∧ t.acq.counter = s.acq.counter ∧ t.acq.mode = s.acq.mode ∧ t.acq.samples = s.acq.samples
      ∧ t.trig = { trackingCleared (trigTold s f) with
        holdoff := 0
        forced := false
        autoTimer := if t.acq.state = .ready ∧ f 48 = 0 then some ((f 50).toNat * 1000000) else none }
      ∧ t.setup.changed = s.setup.changed
      ∧ (t.acq.state = .settling ↔ ¬ FrontSettled t) ∧ t.acq.state ≠ .stopped ∧ t.acq.state ≠ .posttrig
      ∧ (∀ i, (t.acq.seg i).state = .filling → t.acq.fillCount = 0 ∧ t.acq.postCount = 0
        ∧ (t.acq.snapOf (t.acq.seg i)).vals = (acqIds s.straps).map fun id => (id, f id))
      ∧ (s.acq.mode = .sequence → t.acq.seqList = [] ∧ t.acq.seqCount = 0
        ∧ (t.acq.state = .settling → t.acq.nextSlot = 0)
        ∧ ∀ j ∈ s.acq.seqList, (s.acq.seg j).holds = 0 → (t.acq.seg j).state ≠ .complete)
  storeKept : AltersClass s f .acq → s.acq.mode ≠ .stop →
    let newK := slotCount s.straps (lengthOf (f fidRecordLength))
    ∀ j, (s.acq.seg j).state = .complete →
      (0 < (s.acq.seg j).holds → (t.acq.seg j).state = .complete)
        ∧ (f fidRecordLength ≠ s.fieldVal fidRecordLength → newK ≤ j → (s.acq.seg j).holds = 0 →
          t.acq.seg j = Seg.blank)
        ∧ ((s.acq.seg j).holds = 0 → (s.acq.seg j).pending = true → (s.acq.seg j).current = false →
          (s.acq.mode = .sequence ∨ j ∉ s.acq.seqList) → (t.acq.seg j).state ≠ .complete)
        ∧ (s.acq.mode ≠ .sequence → t.acq.state = .settling → (s.acq.seg j).current = true → j < newK →
          (t.acq.seg j).state = .complete ∧ (t.acq.seg j).current = true)
  stopped : s.acq.mode = .stop → s.setup.changed.Nodup →
    let newK := slotCount s.straps (lengthOf (f fidRecordLength))
    t.acq.mode = .stop ∧ t.acq.state = .stopped ∧ t.acq.counter = s.acq.counter ∧ t.acq.samples = s.acq.samples
      ∧ t.setup.changed.Nodup ∧ t.trig = trigTold s f
      ∧ (∀ id, id ∈ t.setup.changed ↔ id ∈ s.setup.changed ∨ (id ∈ acqIds s.straps ∧ f id ≠ s.fieldVal id))
      ∧ (f fidRecordLength ≠ s.fieldVal fidRecordLength → ∀ j, newK ≤ j → (s.acq.seg j).state = .complete →
        (s.acq.seg j).holds = 0 → (t.acq.seg j).state = .free)
      ∧ (∀ j, (s.acq.seg j).state = .complete →
        (0 < (s.acq.seg j).holds ∨ (j < newK ∧ ((s.acq.seg j).current = true ∨ j ∈ s.acq.seqList))) →
        (t.acq.seg j).state = .complete)
      ∧ (f fidRecordLength = s.fieldVal fidRecordLength → ¬ AltersClass s f .view → t.acq = s.acq ∧ t.rend = s.rend)
      ∧ (AltersClass s f .view → (∀ a, Cells.get 0 t.rend.rasters a = 0) ∧ t.rend.decayDue = false
        ∧ ∀ i, (s.acq.seg i).current = true → i < newK → s.acq.segChannels (s.acq.seg i) ≠ [] →
          i ∈ t.rend.queue ∨ ∃ r, t.rend.render = some r ∧ r.seg = i)

/-- A count after one decay by PERSIST_MODE and PERSIST_DECAY (R124). -/
def decayedCount (mode dec : Int) (c : Nat) : Nat :=
  if mode = 0 then 0 else if mode = 1 then (if c = 0 then 0 else c - max 1 (c / 2 ^ dec.toNat)) else c

/-- A row is hit by a column step: it lies between the least and the greatest row of the column's samples and the join
sample (R120, R121). -/
def RowHit (s : State) (r : Render) (m : ChanMap) (row : Nat) : Prop :=
  let isRow : Nat → Prop := fun x =>
    (∃ i < r.bin, x = rowOf m.pos m.inv (s.acq.sample r.seg m.ch (r.start + r.col * r.bin + i)))
      ∨ (r.col = 0 ∧ 0 < r.start ∧ x = rowOf m.pos m.inv (s.acq.sample r.seg m.ch (r.start - 1)))
      ∨ (r.col ≠ 0 ∧ r.prevRow = some x)
  (∃ x, isRow x ∧ x ≤ row) ∧ ∃ x, isRow x ∧ row ≤ x

/-- An LED's condition holds (R43). -/
def Lit (s : State) : LedSource → Prop
  | .off => False
  | .on => True
  | .fieldEq id v => (fieldSpec s.straps id).isSome = true ∧ s.fieldVal id = v
  | .frontIs n => n ≤ (if s.straps.channels = .four then 4 else 2) ∧ s.fieldVal 58 = n
  | .runMode m => s.acq.mode = m
  | .acqReady => s.acq.state = .ready
  | .locked => s.setup.holder ≠ none

/-! ## Time (R61; logs 2 and 3) -/

/-- The power-on scan has begun where it had not: its operation record stands, and nothing else has moved (R147; log 24). -/
def ScanBegun (s u : State) : Prop :=
  u = if s.store.state = .scanning ∧ s.store.op = none then
      { s with store := { s.store with op := some ⟨.scan, none, .start, false⟩ } }
    else s

/-- One base tick has passed: the base tick count has risen, the PROBE_COMP wave stands at its level for the new count
(R79), every running timer has one tick less, and nothing else has moved. -/
def Ticked (s t : State) : Prop :=
  t.baseTick = s.baseTick + 1
    ∧ t.panel = { s.panel with
      scanTimer := s.panel.scanTimer - 1
      tone := match s.panel.tone with
        | .silent => .silent
        | .click f l => .click f (l - 1)
        | .error f l => .error f (l - 1) }
    ∧ t.fe = { s.fe with
      echoTimer := s.fe.echoTimer.map (· - 1)
      chans := s.fe.chans.map fun c => { c with settle := c.settle.map (· - 1) } }
    ∧ t.trig = { s.trig with
      holdoff := max (min 1 s.trig.holdoff) (s.trig.holdoff - 1)
      autoTimer := s.trig.autoTimer.map (· - 1)
      pulse := s.trig.pulse.map (· - 1)
      probe := decide ((s.baseTick + 1).toNat % 1000000 < 500000) }
    ∧ t.acq = { s.acq with decim := s.acq.decim.map (· - 1) }
    ∧ t.comp = { s.comp with frameTimer := s.comp.frameTimer - 1 }
    ∧ t.store = { s.store with clockNext := s.store.clockNext - 1 }
    ∧ t.setup = s.setup ∧ t.rend = s.rend ∧ t.portA = s.portA ∧ t.portB = s.portB ∧ t.straps = s.straps
    ∧ t.memLast = s.memLast ∧ t.fbLast = s.fbLast ∧ t.pending = s.pending

/-- A frame's kind names a request, and its parameter count is one the kind takes (R184, R185). -/
abbrev KindTakes (kind : BitVec 8) (params : List Word) : Prop :=
  (kind.toNat, params.length) ∈
      [(0x01, 0), (0x02, 1), (0x03, 2), (0x10, 2), (0x12, 3), (0x13, 0), (0x14, 1), (0x15, 0), (0x20, 2), (0x21, 2),
        (0x22, 2), (0x23, 2), (0x30, 0), (0x31, 1), (0x32, 1), (0x33, 1), (0x34, 6), (0x35, 1), (0x36, 1), (0x40, 0),
        (0x41, 4), (0x42, 5), (0x44, 0), (0x50, 18), (0x51, 1), (0x52, 1), (0x53, 1), (0x54, 0), (0x55, 2)]
    ∨ (kind.toNat = 0x11 ∧ params.length % 3 = 2 ∧ params.length ≤ 62)
    ∨ (kind.toNat = 0x43 ∧ 2 ≤ params.length ∧ (params.getD 1 0).toNat = params.length - 2)

end Sys2Proof.Machine
end

