-- ==== Sys2Proof/Certificates/Slice0/Obligations.lean ====
section
/-!
DEFINITION. The statements for the provers, in the terms of Safety.lean: each says what one command or the machine does.
-/

open Sys2Proof Sys2Proof.Machine

/-! ## The step and what reset leaves -/

/-- A step takes the command at the front of the queue and runs it with the queue's rest (the model's queue: log 1).
-/
def Obligations.StepRunsFront : Prop :=
  ∀ (c : Instr) (rest : List Instr) (s : State), s.pending = c :: rest →
    step s = exec c { s with pending := rest }

/-- A step with no command waiting (the model's choice: logs 2, 3 and 22). It takes the oldest event that the last
scan tick yielded, as that event's own command does (R26). With none, and with no frame to send, one base tick passes:
the base tick count rises (R61), the PROBE_COMP wave follows it (R79), every running timer has one tick less, and
nothing else moves. With the front-end link FREE and a channel WAITING, the frame of the channel that comes first in
the cyclic order after the one last served is sent (R52), and the tick passes after it; that the echo timer starts in
the act of the sending, where R52 starts it at the end of the frame, is the model's choice (log 12). A power-on scan
that has not begun begins with such a step (R147; the moment: log 24). -/
def Obligations.IdleSteps : Prop :=
  (∀ (s : State) (e : PanelEvent) (rest : List PanelEvent), s.pending = [] → s.panel.due = e :: rest →
    step s = exec (match e with
      | .press k => .keyPress k
      | .release k => .keyRelease k
      | .detent n cw => .detent n cw) s)
    ∧ (∀ s : State, s.pending = [] → s.panel.due = [] →
      (s.fe.link.isSome = true ∨ ∀ c ∈ s.fe.chans, c.upd ≠ .waiting) →
      ∃ u t, step s = .next t ∧ ScanBegun s u ∧ Ticked u t)
    ∧ ∀ (s : State) (k : Nat), s.pending = [] → s.panel.due = [] → s.fe.link = none → k < s.fe.chans.length →
      let place : Nat → Nat := fun j => (s.fe.lastServed + j) % s.fe.chans.length
      (∃ c, s.fe.chans[place k]? = some c ∧ c.upd = .waiting) →
      (∀ j < k, ∀ c, s.fe.chans[place j]? = some c → c.upd ≠ .waiting) →
      ∃ f u t, step s = .next t ∧ FrameSent s f (place k + 1) ∧ ScanBegun { s with fe := f } u ∧ Ticked u t

/-- Every command of the table is answered with a next state, which keeps the queue's rest (the queue: log 1); but for
a power-on reset it keeps the straps as well (R59), and, since base ticks pass only in a step on an empty queue, the
base tick count (the model's choice: logs 2 and 37). -/
def Obligations.EveryCommandAnswers : Prop :=
  ∀ (c : Instr) (s : State), ∃ t, exec c s = .next t ∧ t.pending = s.pending
    ∧ ((∀ st w u, c ≠ .powerOnReset st w u) → t.straps = s.straps ∧ t.baseTick = s.baseTick)

/-- What reset leaves, for every setting of the straps. Every law of the part holds (R1, R7, R11, R22, R58, R79, R84,
R86, R87, R88, R93, R102, R108, R147, R176; that the addressed memories are in their canonical form is the model's:
log 33). And every block has the values that the spec gives: the setup table (R1, R11, R14, R22), the panel's timer,
debounce records, decoders, maps, blink phase and tone (R26, R27, R37, R38, R39, R43, R44, R45), the channel records,
the link, the tag and the channel last served (R49, R52), the base tick count (R61), the trigger unit (R62, R80), the
acquisition and its records (R82, R86, R88, R90), the renderer (R107, R116), the buffers, the overlays, the palettes
and the frame timer (R127, R128, R141), the store (R146, R150, R160), both ports (R164) and the turns of the memories
(R171, R172); the queue of panel events, empty too, is the model's own (log 22). -/
def Obligations.ResetLeaves : Prop :=
  (∀ (st : Straps) (flash : Cells Word), Cells.wf erasedWord flash = true →
    let s := State.resetWith st flash
    LockLaw s ∧ GenerationLaw s ∧ NoticeLaw s ∧ AcqLaw s ∧ SnapshotLaw s ∧ HoldLaw s ∧ KeptLaw s ∧ RenderQueueLaw s
      ∧ MemoryLaw s ∧ StoreLaw s ∧ SetupLaw s ∧ BuildLaw s ∧ SettledLaw s ∧ ProbeLaw s)
    ∧ ∀ (st : Straps) (flash : Cells Word),
      let s := State.resetWith st flash
      let count := if st.channels = .four then 4 else 2
      let ramp : Nat → Word := fun i => BitVec.ofNat 16 (2048 * (31 * i / 15) + 32 * (63 * i / 15) + 31 * i / 15)
      s.setup.recs.length = (if st.channels = .four then 56 else 42)
        ∧ (∀ r ∈ s.setup.recs, r.value = dfltOf st r.id ∧ r.src = .dflt ∧ r.gen = 1)
        ∧ s.setup.gen = 1 ∧ s.setup.holder = none ∧ s.setup.localDisabled = false ∧ s.setup.changed = []
        ∧ s.panel.scanTimer = 1000000
        ∧ s.panel.keys.length = 64 ∧ (∀ k ∈ s.panel.keys, k.pressed = false ∧ k.count = 0)
        ∧ s.panel.encs.length = 8
        ∧ (∀ e ∈ s.panel.encs, e.ref = none ∧ e.part = 0 ∧ e.ticks = 41 ∧ e.lastCw = true ∧ e.fast = 0)
        ∧ s.panel.keymap.length = 64
        ∧ s.panel.keymap.take 10 = [.runStop, .single, .force, .dflt, .channel 1, .channel 2, .channel 3, .channel 4,
          .localKey, .clear]
        ∧ (∀ a ∈ s.panel.keymap.drop 10, a = .report)
        ∧ s.panel.knobmap = [⟨.front 1, -1, -1⟩, ⟨.front 2, 2, 2⟩, ⟨.fixed 32, -1, -1⟩, ⟨.fixed 57, 10, 500⟩,
          ⟨.fixed 43, 1, 8⟩, ⟨.report, 0, 0⟩, ⟨.report, 0, 0⟩, ⟨.report, 0, 0⟩]
        ∧ s.panel.ledmap.length = 32
        ∧ s.panel.ledmap.take 16 = [⟨.runMode .run, false⟩, ⟨.runMode .stop, false⟩, ⟨.runMode .single, false⟩,
          ⟨.runMode .sequence, false⟩, ⟨.fieldEq 0 1, false⟩, ⟨.fieldEq 8 1, false⟩, ⟨.fieldEq 16 1, false⟩,
          ⟨.fieldEq 24 1, false⟩, ⟨.locked, true⟩, ⟨.acqReady, false⟩, ⟨.frontIs 1, false⟩, ⟨.frontIs 2, false⟩,
          ⟨.frontIs 3, false⟩, ⟨.frontIs 4, false⟩, ⟨.fieldEq 48 0, false⟩, ⟨.fieldEq 40 1, false⟩]
        ∧ (∀ l ∈ s.panel.ledmap.drop 16, l = ⟨.off, false⟩)
        ∧ s.panel.blinkOn = true ∧ s.panel.blinkCount = 0 ∧ s.panel.tone = .silent ∧ s.panel.due = []
        ∧ s.fe.chans.length = count
        ∧ (∀ c ∈ s.fe.chans, c.upd = .waiting ∧ c.attempt = 1 ∧ c.sent = ⟨false, 8, 0, false⟩ ∧ c.confirmed = none
          ∧ c.pendingLatest = false ∧ c.settle = none ∧ c.relayMoved = false ∧ c.fault = false)
        ∧ s.fe.link = none ∧ s.fe.tag = 0 ∧ s.fe.lastServed = count
        ∧ s.baseTick = 0
        ∧ s.trig.lowSeen = false ∧ s.trig.highSeen = false ∧ s.trig.wstate = .idle ∧ s.trig.wcount = 0
        ∧ s.trig.saturated = false ∧ s.trig.capA = 0 ∧ s.trig.capB = 0 ∧ s.trig.ext = .none ∧ s.trig.extCount = 0
        ∧ s.trig.holdoff = 0 ∧ s.trig.autoTimer = none ∧ s.trig.forced = false ∧ s.trig.pulse = none
        ∧ s.auxLevel = true
        ∧ s.acq.mode = .run ∧ s.acq.state = .settling ∧ s.acq.counter = 0 ∧ s.acq.nextSlot = 0
        ∧ (∀ i, s.acq.seg i = Seg.blank) ∧ s.acq.snaps.length = 12 ∧ (∀ n ∈ s.acq.snaps, n.refs = 0)
        ∧ s.acq.newest = none ∧ s.acq.seqList = [] ∧ s.acq.seqCount = 0
        ∧ s.rend.queue = [] ∧ s.rend.render = none ∧ s.rend.decayDue = false
        ∧ (∀ a, Cells.get 0 s.rend.rasters a = 0)
        ∧ s.comp.state = .waiting ∧ s.comp.reads = 0 ∧ s.comp.frameTimer = 16667000
        ∧ (∀ a, Cells.get 0 s.comp.front a = 0 ∧ Cells.get 0 s.comp.back a = 0)
        ∧ (∀ p : Port, (∀ a, Cells.get 0 (s.comp.overlay p).plane a = 0)
          ∧ (s.comp.overlay p).palette.length = 16 ∧ ∀ i < 16, (s.comp.overlay p).palette[i]? = some (ramp i))
        ∧ s.store.state = .scanning ∧ s.store.op = none ∧ s.store.startup = 0
        ∧ s.store.clock = 0 ∧ s.store.clockNext = 1000000000 ∧ s.store.buffer = []
        ∧ s.store.dir.length = 16 ∧ (∀ e ∈ s.store.dir, e = ⟨.empty, List.replicate 8 0x2020, 0, 0, 0, 0⟩)
        ∧ (∀ p : Port, (s.port p).link = .idle ∧ (s.port p).staged = none ∧ (s.port p).ack = .none
            ∧ (s.port p).response = none ∧ (s.port p).burst = 0 ∧ (s.port p).word = 0 ∧ (s.port p).failed = none
            ∧ (s.port p).table = none ∧ (s.port p).queue = [] ∧ (s.port p).lost = false ∧ (s.port p).attnMask = 3
            ∧ (s.port p).noticeMask = 255 ∧ (s.port p).holds = [] ∧ (s.port p).attn = false)
        ∧ s.memLast = .portB ∧ s.fbLast = .portB

/-! ## Laws that every step keeps -/

/-- LOCAL_DISABLED is clear whenever the holder is NONE: every step keeps it (R22). -/
def Obligations.LockLawKept : Prop := ∀ s t : State, LockLaw s → step s = .next t → LockLaw t

/-- The generation never takes the value 0 (R11). But for a power-on reset and a scan tick, a step counts at most one
change: it either leaves the generation and every record as they are, or raises the generation by one, past 0, and
gives each record whose value it alters the new generation, leaving the others as they are (R10, R11). A scan tick
with no event waiting leaves the setup table as it is; where events of the tick before still wait, it takes them
first, one by one (the model's choice: log 22), and each counts at most one change in the same way. -/
def Obligations.GenerationCountsChanges : Prop :=
  (∀ s t : State, step s = .next t → (GenerationLaw s → GenerationLaw t)
      ∧ ((∀ st w u rest, s.pending ≠ .powerOnReset st w u :: rest) →
        (∀ k a b rest, s.pending ≠ .scanTick k a b :: rest) → ChangeCounted s t))
    ∧ ∀ (s : State) (k : BitVec 64) (a b : BitVec 8),
      (s.panel.due = [] → ∃ t, exec (.scanTick k a b) s = .next t ∧ t.setup = s.setup)
        ∧ ∀ (e : PanelEvent) (rest : List PanelEvent), s.panel.due = e :: rest →
          ∃ u, exec (match e with
            | .press k => .keyPress k
            | .release k => .keyRelease k
            | .detent n cw => .detent n cw) s = .next u
            ∧ ChangeCounted s u ∧ u.panel.due = rest ∧ exec (.scanTick k a b) s = exec (.scanTick k a b) u

/-- A notice queue holds at most 64 notices, with at most one for each coalescing key: every step keeps it (R176). -/
def Obligations.NoticeLawKept : Prop := ∀ s t : State, NoticeLaw s → step s = .next t → NoticeLaw t

/-- The run mode is STOP exactly while the acquisition state is STOPPED; at most one segment is FILLING, and one is
exactly in PRETRIG, READY and POSTTRIG; at most one segment is current, and it is COMPLETE: every step keeps it (R84,
R86, R93; the premise on the memories' form: log 33). -/
def Obligations.AcqLawKept : Prop := ∀ s t : State, MemoryLaw s → AcqLaw s → step s = .next t → AcqLaw t

/-- Each snapshot entry's reference count is the number of segments that are not FREE and refer to it, every segment
that is not FREE refers to an entry, and a FREE record is blank: every step keeps it (R86, R88; the premise on the
memories' form: log 33; the other premises are the laws of R93 and, that every COMPLETE segment is kept, of R87). -/
def Obligations.SnapshotLawKept : Prop :=
  ∀ s t : State, MemoryLaw s → AcqLaw s → KeptLaw s → SnapshotLaw s → step s = .next t → SnapshotLaw t

/-- Each port holds at most 4 segments, the count in each segment's record is that of the port's list, every held
segment is COMPLETE, and the implicit hold stands with its READ_WAVEFORM: every step keeps it (R102, R103, R164; the
premise on the memories' form: log 33). -/
def Obligations.HoldLawKept : Prop := ∀ s t : State, MemoryLaw s → HoldLaw s → step s = .next t → HoldLaw t

/-- Every COMPLETE segment is kept: a port holds it, or its index is below K and it is current, render-pending or a
member of the sequence list (R87). A record at or above K is FREE unless a port holds it (R86). Every step keeps both,
whichever of its acts takes a reason to keep a segment away or lowers K. The premises: the memories' form (log 33),
and the laws of R84 and R93 and of R102, by which a held segment is COMPLETE. -/
def Obligations.KeptLawKept : Prop :=
  ∀ s t : State, MemoryLaw s → AcqLaw s → HoldLaw s → KeptLaw s → step s = .next t → KeptLaw t

/-- The render queue holds at most 8 indices, none twice, and each names a COMPLETE segment that is render-pending; so
is the segment of the render in flight, which is not in the queue, and no other is; and a renderer with no render in
flight has nothing waiting: every step keeps it (R107, R108; the premise on the memories' form: log 33; the other
premises are the laws that the current segment is COMPLETE, R86, and that every COMPLETE segment is kept, R87). -/
def Obligations.RenderQueueLawKept : Prop :=
  ∀ s t : State, MemoryLaw s → AcqLaw s → KeptLaw s → RenderQueueLaw s → step s = .next t → RenderQueueLaw t

/-- Every addressed memory keeps its canonical form (the form is the model's: log 33). -/
def Obligations.MemoryLawKept : Prop := ∀ s t : State, MemoryLaw s → step s = .next t → MemoryLaw t

/-- At most one store operation is in flight: no operation record stands in IDLE, and one stands in every other state,
but for the SCANNING that a reset leaves, whose scan has not begun (log 24); the record is of kind SCAN, without a
setup slot, exactly while the store is SCANNING: every step keeps it (R146, R147). -/
def Obligations.StoreLawKept : Prop := ∀ s t : State, StoreLaw s → step s = .next t → StoreLaw t

/-- Each applied change leaves every field within its range and within the dependent limits: every step keeps it, for
changes from every source (R1, R7). -/
def Obligations.SetupLawKept : Prop := ∀ s t : State, SetupLaw s → step s = .next t → SetupLaw t

/-- A build is in hand exactly while the compositor composes, and the words it has written to the back buffer are
those of its own image, whatever has happened since its start: every step keeps it (R127, R129, R172; 16 pixels an
access, in the image's order: log 21; the premise on the memories' form: log 33). -/
def Obligations.BuildLawKept : Prop := ∀ s t : State, MemoryLaw s → BuildLaw s → step s = .next t → BuildLaw t

/-- Every enabled channel of an armed segment is settled and confirmed, or in FAULT (R58, R93): while a segment is
FILLING, each channel that its snapshot enables has no update outstanding, no pending request and no settle time
running, and it is in FAULT or has confirmed the settings that the snapshot's fields give. Every step keeps this, by
the law of the front end that it rests on: which channel the link serves, that a frame in flight with no request
pending carries the live settings, that an idle channel has confirmed the live settings or is in FAULT, and that the
filling segment's snapshot holds the live values (R49, R51 to R58, R88). The premises: the memories' form (log 33),
the laws of R84 and R93 and of R88, and that the setup table has one record for each present field (R1). -/
def Obligations.SettledLawKept : Prop :=
  (∀ s t : State, MemoryLaw s → AcqLaw s → SnapshotLaw s → SetupLaw s → SettledLaw s → step s = .next t → SettledLaw t)
    ∧ ∀ s : State, MemoryLaw s → AcqLaw s → SetupLaw s → SettledLaw s → ∀ i n, (s.acq.seg i).state = .filling →
      n ∈ s.acq.segChannels (s.acq.seg i) →
      let c := s.fe.chan n
      let v := s.acq.snapVal (s.acq.seg i)
      c.upd = .idle ∧ c.pendingLatest = false ∧ c.settle = none
        ∧ (c.fault = true ∨ ∃ g, c.confirmed = some g
          ∧ SettingsOfFields g (v (8 * (n - 1) + 1)) (v (8 * (n - 1) + 3)) (v (8 * (n - 1) + 4)))

/-- The frame buffers do not flip while the screen-read count is above zero: a step after which a read stands has left
the front buffer as it was, but for a power-on reset (R130). -/
def Obligations.NoFlipWhileScreenIsRead : Prop :=
  ∀ s t : State, step s = .next t → (∀ st w u rest, s.pending ≠ .powerOnReset st w u :: rest) →
    0 < t.comp.reads → t.comp.front = s.comp.front

/-! ## Values -/

/-- The CRC: a run followed by its own CRC leaves 0 in the register, and no change of a single word goes unseen
(R182). -/
def Obligations.CrcDetectsOneWord : Prop :=
  (∀ ws : List Word, crcOf (ws ++ [crcOf ws]) = 0)
    ∧ ∀ (xs ys : List Word) (v w : Word), crcOf (xs ++ v :: ys) = crcOf (xs ++ w :: ys) → v = w

/-- The RISING tracker fires at a sample at or above L once LOW_SEEN was set by a sample at or below max(0, L − h);
the sample that sets the flag does not fire, and the one that fires does not set it (R64). The FALLING tracker mirrors
it with HIGH_SEEN and min(255, L + h) (R65). The EXT filter adopts the first level it sees and gives an edge at the
third consecutive sample of a new level, and clearing the tracking state sets its level to NONE (R66). Each kept
sample that reaches the trigger unit moves the three so. -/
def Obligations.EdgeTrackers : Prop :=
  (∀ (level hyst code : Nat) (seen : Bool),
    let r := trackRising level hyst seen code
    (seen = true ∧ level ≤ code → r = (false, true))
      ∧ (seen = true ∧ code < level → r = (true, false))
      ∧ (seen = false ∧ (code : Int) ≤ max 0 ((level : Int) - hyst) → r = (true, false))
      ∧ (seen = false ∧ max 0 ((level : Int) - hyst) < code → r = (false, false)))
    ∧ (∀ (level hyst code : Nat) (seen : Bool),
      let r := trackFalling level hyst seen code
      (seen = true ∧ code ≤ level → r = (false, true))
        ∧ (seen = true ∧ level < code → r = (true, false))
        ∧ (seen = false ∧ min 255 (level + hyst) ≤ code → r = (true, false))
        ∧ (seen = false ∧ code < min 255 (level + hyst) → r = (false, false)))
    ∧ (∀ n raw, filterExt .none n raw = (if raw then .high else .low, 0, false))
    ∧ (∀ (lvl : ExtLevel) (raw : Bool), lvl ≠ .none →
      (lvl = (if raw then .high else .low) → ∀ n, filterExt lvl n raw = (lvl, 0, false))
        ∧ (lvl ≠ (if raw then .high else .low) →
          filterExt lvl 0 raw = (lvl, 1, false) ∧ filterExt lvl 1 raw = (lvl, 2, false)
            ∧ filterExt lvl 2 raw = (if raw then .high else .low, 0, true)))
    ∧ (∀ (u : Trig) (v : Nat → Int) (code : Nat) (raw : Bool),
      let t := (u.track v code raw).1
      let x := filterExt u.ext u.extCount raw
      t.ext = x.1 ∧ t.extCount = x.2.1
        ∧ (v 41 ≠ 4 → t.lowSeen = (trackRising (v 43).toNat (v 44).toNat u.lowSeen code).1
          ∧ t.highSeen = (trackFalling (v 43).toNat (v 44).toNat u.highSeen code).1)
        ∧ (v 41 = 4 → t.lowSeen = u.lowSeen ∧ t.highSeen = u.highSeen))
    ∧ ∀ u : Trig, u.clearTracking = { u with
      lowSeen := false, highSeen := false, wstate := .idle, wcount := 0, ext := .none, extCount := 0 }

/-- What one kept sample does to the trigger unit, and whether it is a candidate. A channel's firings are the
trackers'; an EXT edge is a RISING firing to HIGH and a FALLING one to LOW, the other way round with EXT_POLARITY
INVERTED (R65, R67). In EDGE, a firing of the slope selected is a candidate; in WIDTH, the end edge of an open pulse
whose width meets WIDTH_COND (R65, R69). The width counter counts an open pulse, saturating at 16,777,215; the end
edge moves capture A to B and the width to A; a start edge of a selected polarity then opens a pulse from 0 (R68, R69;
both firings at one sample: log 26). Nothing else of the unit moves. -/
def Obligations.TriggerDecision : Prop :=
  ∀ (u : Trig) (v : Nat → Int) (code : Nat) (raw : Bool),
    let t := (u.track v code raw).1
    let x := filterExt u.ext u.extCount raw
    let rise : Prop := if v 41 = 4 then x.2.2 = true ∧ x.1 = (if v 51 = 1 then .low else .high)
      else u.lowSeen = true ∧ (v 43).toNat ≤ code
    let fall : Prop := if v 41 = 4 then x.2.2 = true ∧ x.1 = (if v 51 = 1 then .high else .low)
      else u.highSeen = true ∧ code ≤ (v 43).toNat
    let rising : Prop := rise ∧ (v 42 = 0 ∨ v 42 = 2)
    let falling : Prop := fall ∧ (v 42 = 1 ∨ v 42 = 2)
    let ends : Prop := (u.wstate = .positive ∧ fall) ∨ (u.wstate = .negative ∧ rise)
    let w := if u.wstate = .idle then u.wcount else min 16777215 (u.wcount + 1)
    let lo := (v 46).toNat
    let hi := (v 47).toNat
    let met : Prop := if v 45 = 0 then w < hi else if v 45 = 1 then lo < w else if v 45 = 2 then lo ≤ w ∧ w ≤ hi
      else w < lo ∨ hi < w
    ((u.track v code raw).2 = true ↔ if v 40 = 0 then rising ∨ falling else ends ∧ met)
      ∧ (ends → t.capA = w ∧ t.capB = u.capA) ∧ (¬ ends → t.capA = u.capA ∧ t.capB = u.capB)
      ∧ (rising → t.wstate = .positive) ∧ (¬ rising → falling → t.wstate = .negative)
      ∧ (rising ∨ falling → t.wcount = 0 ∧ t.saturated = false)
      ∧ (¬ rising → ¬ falling → t.wcount = w ∧ (ends → t.wstate = .idle) ∧ (¬ ends → t.wstate = u.wstate)
        ∧ (t.saturated = true ↔ u.saturated = true ∨ (u.wstate ≠ .idle ∧ 16777215 ≤ u.wcount)))
      ∧ t = { u with
        lowSeen := t.lowSeen, highSeen := t.highSeen, wstate := t.wstate, wcount := t.wcount, saturated := t.saturated
        capA := t.capA, capB := t.capB, ext := t.ext, extCount := t.extCount }

/-- The row of a code: 199 − Y, with Y above 199 at row 0 and Y below −200 at row 399 (R119). A decay acts on every
count of the four rasters by PERSIST_MODE: OFF empties them, TIMED takes max(1, floor(c / 2^s)) from each count above
0, INFINITE keeps them (R124). The premise on the rasters' form: log 33. -/
def Obligations.RowsAndDecays : Prop :=
  (∀ (pos : Int) (inv : Bool) (c : Byte),
    let y : Int := (if inv then 128 - (c.toNat : Int) else (c.toNat : Int) - 128) * 2 + pos
    rowOf pos inv c < 400
      ∧ (-200 ≤ y → y ≤ 199 → (rowOf pos inv c : Int) = 199 - y)
      ∧ (199 < y → rowOf pos inv c = 0)
      ∧ (y < -200 → rowOf pos inv c = 399))
    ∧ ∀ (dec : Int) (r : Cells Byte) (a : Nat), Cells.wf (0 : Byte) r = true →
      Cells.get 0 (decayRasters 0 dec r) a = 0
        ∧ (Cells.get 0 (decayRasters 1 dec r) a).toNat
          = (if Cells.get 0 r a = 0 then 0
            else (Cells.get 0 r a).toNat - max 1 ((Cells.get 0 r a).toNat / 2 ^ dec.toNat))
        ∧ Cells.get 0 (decayRasters 2 dec r) a = Cells.get 0 r a

/-- ATTN of a port is high exactly while PRST is not asserted and NOTICE is in the attention mask with a notice
waiting, or DONE is in it with a response unread (R174, R178). AUX is high by AUX_SOURCE: while a TRIG_OUT pulse runs,
with the PROBE_COMP wave, or while the acquisition state is PRETRIG, READY or POSTTRIG; the wave is high while the
base tick count modulo 1,000,000 is below 500,000, and every step keeps it so (R79, R80; that the wave is a register:
log 32). -/
def Obligations.OutputLines : Prop :=
  (∀ ps : PortState, ps.attn = true ↔ ps.prst = false
      ∧ ((ps.attnMask.getLsbD 0 = true ∧ ps.queue ≠ []) ∨ (ps.attnMask.getLsbD 1 = true ∧ ps.link = .responding)))
    ∧ (∀ s : State,
      (s.fieldVal 67 = 0 → (s.auxLevel = true ↔ s.trig.pulse ≠ none))
        ∧ (s.fieldVal 67 = 1 → ProbeLaw s → (s.auxLevel = true ↔ s.baseTick.toNat % 1000000 < 500000))
        ∧ (s.fieldVal 67 = 2 →
          (s.auxLevel = true ↔ s.acq.state = .pretrig ∨ s.acq.state = .ready ∨ s.acq.state = .posttrig)))
    ∧ ∀ s t : State, ProbeLaw s → step s = .next t → ProbeLaw t

/-- A pixel of a build's image, from what the build took at its start (R131 to R136): overlay A over overlay B, each
by its own palette, over the readout strip, the trigger-level marker, the traces, the graticule and black. The
graticule by GRATICULE; the traces with the front channel on top and then 1 to 4, each in its channel's colour at one
of eight levels by INTENSITY; the marker a triangle at the row of TRIG_LEVEL on the source channel; the readouts when
READOUTS is ON, each item in its cells by the glyph of its character (the bitmaps are free: log 9). And the texts of
the items, from the values, the current segment's flags, the run mode, the lock holder and the changed-while-stopped
set that the build took (R137 to R140). The premises are the CHANNELS strap and the fields' ranges (R3). -/
def Obligations.ImageLayers : Prop :=
  (∀ (b : BuildInputs) (x y : Nat), x < 800 → y < 480 → b.channels ≤ 4 →
    let j := x - 20
    let r := y - 40
    let area : Prop := 20 ≤ x ∧ x ≤ 519 ∧ 40 ≤ y ∧ y ≤ 439
    let base : Nat → Nat × Nat × Nat := fun
      | 1 => (31, 63, 0)
      | 2 => (0, 63, 31)
      | 3 => (31, 0, 31)
      | _ => (0, 63, 0)
    let shade : Nat → Nat → Word := fun n l =>
      BitVec.ofNat 16 (2048 * ((base n).1 * l / 8) + 32 * ((base n).2.1 * l / 8) + (base n).2.2 * l / 8)
    let division : Prop := j % 50 = 0 ∨ j = 499 ∨ r % 50 = 0 ∨ r = 399
    let axes : Prop := j = 250 ∨ r = 200 ∨ (r % 10 = 0 ∧ 248 ≤ j ∧ j ≤ 252) ∨ (j % 10 = 0 ∧ 198 ≤ r ∧ r ≤ 202)
    let count : Nat → Nat := fun n => (Cells.get 0 b.rasters (((n - 1) * 500 + j) * 400 + r)).toNat
    let order := ((b.val 58).toNat :: [1, 2, 3, 4].filter (· != (b.val 58).toNat)).filter fun n =>
      decide (1 ≤ n ∧ n ≤ b.channels)
    let source := (b.val 41).toNat + 1
    let level :=
      rowOf (b.val (8 * (source - 1) + 2)) (decide (b.val (8 * (source - 1) + 6) = 1)) (BitVec.ofInt 8 (b.val 43))
    let off := ((y : Int) - 40 - level).natAbs
    let channelText : Nat → List Char := fun n =>
      if n ≤ b.channels ∧ b.val (8 * (n - 1)) = 1 then channelItem b n else []
    let items : List (Nat × Nat × Nat × Word × List Char) :=
      [(4, 0, 20, shade 1 8, channelText 1), (4, 20, 20, shade 2 8, channelText 2),
        (4, 40, 20, shade 3 8, channelText 3), (4, 60, 20, shade 4 8, channelText 4),
        (4, 80, 10, 0xFFFF, runModeItem b), (4, 90, 10, 0xFFFF, lockItem b),
        (22, 0, 20, 0xFFFF, timeItem b), (22, 20, 30, 0xFFFF, triggerItem b)]
    ∃ graticule trace marker readout : Option Word,
      (area ∧ ((b.val 62 = 0 ∧ (division ∨ axes)) ∨ (b.val 62 = 1 ∧ axes)) → graticule = some 0x4208)
        ∧ (¬ (area ∧ ((b.val 62 = 0 ∧ (division ∨ axes)) ∨ (b.val 62 = 1 ∧ axes))) → graticule = none)
        ∧ (area → trace = (order.find? fun n => decide (count n ≠ 0)).map fun n =>
          shade n (min 255 (count n * (b.val 61).toNat) / 32 + 1))
        ∧ (¬ area → trace = none)
        ∧ (b.val 41 ≠ 4 ∧ 40 ≤ y ∧ y ≤ 439 ∧ off ≤ 3 ∧ 520 + 2 * off ≤ x ∧ x ≤ 527 → marker = some (shade source 8))
        ∧ (¬ (b.val 41 ≠ 4 ∧ 40 ≤ y ∧ y ≤ 439 ∧ off ≤ 3 ∧ 520 + 2 * off ≤ x ∧ x ≤ 527) → marker = none)
        ∧ (b.val 63 = 1 → ∀ it ∈ items, it.1 ≤ y → y ≤ it.1 + 15 → 8 * it.2.1 ≤ x → x < 8 * (it.2.1 + it.2.2.1) →
          readout = match it.2.2.2.2[x / 8 - it.2.1]? with
            | some c => if Config.glyph c (x % 8) (y - it.1) then some it.2.2.2.1 else none
            | none => none)
        ∧ (b.val 63 ≠ 1 ∨ y < 4 ∨ y = 20 ∨ y = 21 ∨ 37 < y ∨ (22 ≤ y ∧ 400 ≤ x) → readout = none)
        ∧ pixelAt b x y
          = if Cells.get 0 b.ovA.plane (y * 800 + x) ≠ 0 then
              b.ovA.palette.getD (Cells.get 0 b.ovA.plane (y * 800 + x)).toNat 0
            else if Cells.get 0 b.ovB.plane (y * 800 + x) ≠ 0 then
              b.ovB.palette.getD (Cells.get 0 b.ovB.plane (y * 800 + x)).toNat 0
            else (readout.or (marker.or (trace.or graticule))).getD 0)
    ∧ ∀ b : BuildInputs,
      (∀ n, 1 ≤ n → n ≤ 4 → 0 ≤ b.val (8 * (n - 1) + 1) → b.val (8 * (n - 1) + 1) ≤ 12 →
        0 ≤ b.val (8 * (n - 1) + 5) → b.val (8 * (n - 1) + 5) ≤ 2 → ChannelText b n (channelItem b n))
      ∧ TimeText b (timeItem b)
      ∧ (0 ≤ b.val 41 → b.val 41 ≤ 4 →
        (b.val 41 ≠ 4 → 0 ≤ b.val (8 * (b.val 41).toNat + 1) ∧ b.val (8 * (b.val 41).toNat + 1) ≤ 12
          ∧ 0 ≤ b.val (8 * (b.val 41).toNat + 5) ∧ b.val (8 * (b.val 41).toNat + 5) ≤ 2) →
        TriggerText b (triggerItem b))
      ∧ runModeItem b = runModeText b ∧ lockItem b = lockText b

/-- An arm waits in SETTLING for the front end (R84, R89), takes the slot that R90 or R91 gives by the next-slot
pointer, reuses the current segment in RUN and SINGLE where no slot is available, obtains the newest fitting or the
lowest unused snapshot entry (R88), and enters FILLING (R93), or else waits for a segment. With no pretrigger part the
segment passes to READY in that act, with the auto timer started in AUTO, or to POSTTRIG by a remembered FORCE;
nothing else of the trigger unit moves but its tracking state, which is clear (R71, R72, R73, R74, R77, R79, R94).
Told that the front end may be settled, by the expiry of a settle timer that runs, a SETTLING acquisition arms (R57,
R58). The premise on the memories' form: log 33. -/
def Obligations.ArmTakesSlot : Prop :=
  (∀ s : State, MemoryLaw s → Armed s s.arm)
    ∧ ∀ (s : State) (ch : Nat) (c : ChanRec), s.acq.state = .settling → 1 ≤ ch →
      ch ≤ (if s.straps.channels = .four then 4 else 2) → s.fe.chans[ch - 1]? = some c → c.settle ≠ none →
      ∃ u t, exec (.settleExpiry ch) s = .next t ∧ u = { s with fe := { s.fe with chans := u.fe.chans } }
        ∧ (∀ i, u.fe.chans[i]? = (s.fe.chans[i]?).map fun c =>
          if i = ch - 1 then { c with settle := none, relayMoved := false } else c)
        ∧ (MemoryLaw s → Armed u t)

/-! ## Requests that read, and the port's own -/

/-- IDENTIFY answers the descriptor that the straps give (R180). TRIGGER_STATUS answers the trigger unit's parts in
the layout of table 10.4; SEGMENT_INFO answers the record by its state in its layout, and refuses an index above 1999
and a CURRENT that names no segment. None alters anything, and no lock refuses one (R78, R104, R180, R185; that the
holdoff is kept in base ticks and reported rounded up is the model's: log 30). -/
def Obligations.ReadingsAnswer : Prop :=
  (∀ (s : State) (p : Port) (ws : List Word), Offers s p kindIdentify ws →
    ∃ t, exec (.identify p) s = .next t
      ∧ OnlyAnswered s t p .ok
        ([1, if s.straps.channels = .four then 4 else 2]
          ++ words32 (if s.straps.depth = .twentyMillion then 20000000 else 10000000)
          ++ (if s.straps.panel = .l then [1, 64, 8] else [0, 48, 6])
          ++ [if s.straps.channels = .four then 56 else 42, 16, 512, 64]))
    ∧ (∀ (s : State) (p : Port) (ws : List Word), Offers s p kindTriggerStatus ws →
      ∃ t, exec (.triggerStatus p) s = .next t
        ∧ OnlyAnswered s t p .ok
          (words32 (BitVec.ofNat 32 s.trig.capA) ++ words32 (BitVec.ofNat 32 s.trig.capB)
            ++ [(0 : BitVec 10) ++ ((match s.trig.wstate with
                  | .idle => (0 : BitVec 2)
                  | .positive => 1
                  | .negative => 2)
                ++ (BitVec.ofBool s.trig.forced ++ (BitVec.ofBool s.trig.highSeen
                  ++ (BitVec.ofBool s.trig.lowSeen ++ BitVec.ofBool s.trig.saturated))))]
            ++ words32 (BitVec.ofNat 32 s.trig.wcount) ++ words32 (BitVec.ofNat 32 ((s.trig.holdoff + 9) / 10))
            ++ (match s.trig.autoTimer with
                | none => [0xFFFF, 0xFFFF]
                | some l => words32 (BitVec.ofNat 32 ((l + 999999) / 1000000)))
            ++ [match s.trig.ext with
                | .none => (0 : Word)
                | .low => 1
                | .high => 2]))
    ∧ ∀ (s : State) (p : Port) (ws : List Word), Offers s p kindSegmentInfo ws →
      ∃ t, exec (.segmentInfo p) s = .next t
        ∧ (if 1999 < parNat ws 0 ∧ par ws 0 ≠ 0xFFFF then OnlyAnswered s t p .badValue []
          else
            match (if par ws 0 = 0xFFFF then s.acq.currentIdx else some (parNat ws 0)) with
            | none => OnlyAnswered s t p .noSegment []
            | some i =>
              let g := s.acq.seg i
              let n := s.acq.snapOf g
              ∃ flags : Word,
                (∀ c : Fin 4,
                  flags.getLsbD c = (s.acq.segChannels g).contains (c + 1)
                    ∧ flags.getLsbD (4 + c) = (decide (g.state = .complete) && g.ovr.getLsbD c)
                    ∧ flags.getLsbD (8 + c) = g.fault.getLsbD c)
                ∧ flags.getLsbD 12 = (decide (g.state = .complete) && g.auto)
                ∧ flags.getLsbD 13 = (decide (g.state = .complete) && g.pending)
                ∧ flags.getLsbD 14 = (decide (g.state = .complete) && g.current)
                ∧ flags.getLsbD 15 = false
                ∧ OnlyAnswered s t p .ok
                  (match g.state with
                  | .free => [word i, 0] ++ List.replicate 16 0
                  | .filling => [word i, 1] ++ words32 n.gen ++ wordsNat (lengthOf (n.val 33))
                      ++ wordsNat (intervalOf (n.val 32)) ++ [flags] ++ wordsNat g.p ++ List.replicate 7 0
                  | .complete => [word i, 2] ++ words32 n.gen ++ wordsNat (lengthOf (n.val 33))
                      ++ wordsNat (intervalOf (n.val 32)) ++ [flags] ++ wordsNat g.p ++ words32 g.seq ++ words64 g.time
                      ++ [word (256 * g.holdsA + g.holdsB)]))

/-- SETUP_READ answers the generation and one entry for each id of the range that names a present field, in ascending
id order; a count of 0 or above 32 and a range past 127 are refused; it alters nothing (R18). -/
def Obligations.SetupReadAnswers : Prop :=
  ∀ (s : State) (p : Port) (ws : List Word), SetupLaw s → Offers s p kindSetupRead ws →
    let first := parNat ws 0
    let count := parNat ws 1
    ∃ t, exec (.setupRead p) s = .next t
      ∧ (if count = 0 ∨ 32 < count ∨ 127 < first + count - 1 then OnlyAnswered s t p .badValue []
        else OnlyAnswered s t p .ok
          (words32 s.setup.gen ++ ((List.range count).filterMap fun k =>
              s.setup.recs.find? fun r => r.id == first + k).flatMap fun r =>
            [word r.id] ++ words32 (BitVec.ofInt 32 r.value)
              ++ [match r.src with
                | .portA => (0 : Word)
                | .portB => 1
                | .panel => 2
                | .recall => 3
                | .dflt => 4]
              ++ words32 r.gen))

/-- GET_NOTICES removes the oldest notices, up to the count, and answers their records; LOST clears when the queue is
left empty, and the flags report it as it stood before; a count outside 1..16 is refused (R177, R183). SET_ATTENTION:
a mask with a member outside its set is refused and neither mask changes; otherwise both masks take the new values;
queued notices stay queued; a power-on reset and a port reset enable every member of both (R179). -/
def Obligations.NoticesAndAttention : Prop :=
  (∀ (s : State) (p : Port) (ws : List Word), Offers s p kindGetNotices ws →
    let n := parNat ws 0
    let q := (s.port p).queue
    ∃ t, exec (.getNotices p) s = .next t
      ∧ (if n < 1 ∨ 16 < n then OnlyAnswered s t p .badValue []
        else
          Answered t p (s.port p).lost .ok
              ([word (min n q.length), word (q.length - n)] ++ (q.take n).flatMap noticeRecord)
            ∧ (t.port p).queue = q.drop n
            ∧ (t.port p).lost = (if q.length ≤ n then false else (s.port p).lost)
            ∧ PortKept (s.port p) { t.port p with queue := q, lost := (s.port p).lost }
            ∧ t.port (otherPort p) = s.port (otherPort p) ∧ RestSame s t))
    ∧ (∀ (s : State) (p : Port) (ws : List Word), Offers s p kindSetAttention ws →
        ∃ t, exec (.setAttention p) s = .next t
          ∧ (if 3 < parNat ws 0 ∨ 255 < parNat ws 1 then OnlyAnswered s t p .badValue []
            else
              Answered t p (s.port p).lost .ok []
                ∧ ((t.port p).attnMask.toNat = parNat ws 0 ∧ (t.port p).noticeMask.toNat = parNat ws 1)
                ∧ PortKept (s.port p)
                  { t.port p with attnMask := (s.port p).attnMask, noticeMask := (s.port p).noticeMask }
                ∧ ((t.port p).attnMask.getLsbD 1 = false → (t.port p).queue = [] → (t.port p).attn = false)
                ∧ t.port (otherPort p) = s.port (otherPort p) ∧ RestSame s t))
      ∧ (∀ (st : Straps) (flash : Cells Word) (p : Port),
        ((State.resetWith st flash).port p).attnMask = 3 ∧ ((State.resetWith st flash).port p).noticeMask = 255)
      ∧ ∀ (s : State) (p : Port), ∃ t, exec (.portReset p) s = .next t
        ∧ (t.port p).attnMask = 3 ∧ (t.port p).noticeMask = 255

/-! ## Setup requests -/

/-- SETUP_WRITE: its form, the lock and the expected generation are checked in this order, each refusal giving the
live generation; then the change is validated, a refusal giving the id of the failing pair; then it is applied with
the port as its source, its notices are posted in ascending id order, and the response gives the generation and the
value in force of each named field (R5, R10, R11, R19). SETUP_EXCHANGE: locked out, it is refused; otherwise the one
pair is validated and applied in the same way, and the response gives the value before, the value after and the
generation after (R20). DEFAULT_SETUP: locked out, it is refused; otherwise every saved field takes its default and
the PANEL fields keep their values, the source is DEFAULT and the notices are posted in ascending id order; it is
never clamped (R10, R21). That all the front-end requests of a change are made before the arbiter looks (R12, R51),
and that the echo timer starts in the act of sending, are the model's choices (logs 11 and 12). -/
def Obligations.SetupRequestsApply : Prop :=
  let source : Port → Source := fun
    | .a => .portA
    | .b => .portB
  (∀ (s : State) (p : Port) (ws : List Word), SetupLaw s → Offers s p kindSetupWrite ws →
    let pairs := readPairs (ws.drop 2)
    let expected := par32 ws 0
    ∃ t, exec (.setupWrite p) s = .next t
      ∧ (if pairs = [] ∨ 16 < pairs.length ∨ ¬ (pairs.map Prod.fst).Nodup then
          OnlyAnswered s t p .badRequest (words32 s.setup.gen)
        else if s.setup.holder = some (otherPort p) then OnlyAnswered s t p .locked (words32 s.setup.gen)
        else if expected ≠ 0 ∧ expected ≠ s.setup.gen then OnlyAnswered s t p .stale (words32 s.setup.gen)
        else
          match validate s.straps s.fieldVal pairs with
          | .error (code, id) => OnlyAnswered s t p code [word id]
          | .ok (f, clamped) =>
            Applied s t (source p) f ∧ PostedAnswered s t p (changeNotices s (source p) f)
              ∧ Answered t p (t.port p).lost (if clamped = true ∧ alteredIds s f ≠ [] then .clamped else .ok)
                (words32 t.setup.gen ++ pairs.flatMap fun q => wordsValue (f q.1))))
    ∧ (∀ (s : State) (p : Port) (ws : List Word), SetupLaw s → Offers s p kindSetupExchange ws →
      let id := parNat ws 0
      ∃ t, exec (.setupExchange p) s = .next t
        ∧ (if s.setup.holder = some (otherPort p) then OnlyAnswered s t p .locked []
          else
            match validate s.straps s.fieldVal [(id, (par32 ws 1).toInt)] with
            | .error (code, _) => OnlyAnswered s t p code []
            | .ok (f, clamped) =>
              Applied s t (source p) f ∧ PostedAnswered s t p (changeNotices s (source p) f)
                ∧ Answered t p (t.port p).lost (if clamped = true ∧ alteredIds s f ≠ [] then .clamped else .ok)
                  (wordsValue (s.fieldVal id) ++ wordsValue (f id) ++ words32 t.setup.gen)))
    ∧ ∀ (s : State) (p : Port) (ws : List Word), SetupLaw s → Offers s p kindDefaultSetup ws →
      ∃ t, exec (.defaultSetup p) s = .next t
        ∧ (if s.setup.holder = some (otherPort p) then OnlyAnswered s t p .locked []
          else Applied s t .dflt (defaultValues s) ∧ PostedAnswered s t p (changeNotices s .dflt (defaultValues s))
            ∧ Answered t p (t.port p).lost .ok (words32 t.setup.gen))

/-- A change that is taken, from any source, and what it does beyond the setup table: a SETUP_WRITE, SETUP_EXCHANGE or
DEFAULT_SETUP that passes its checks, a DEFAULT, CHANNEL or SET_FIELD key, a knob's field edit, and a recall. The
front end takes its requests, and a change of TIMING and PANEL fields alone reaches only the trigger unit (R12, R15,
R17, R51, R80, R81). An ACQ change in an active run mode restarts the acquisition (R13): the filling segment is
abandoned, a sequence begins again and its unheld members are freed, the render queue is purged, no render is in
flight, the rasters are empty, holdoff, auto timer and remembered FORCE are cancelled, nothing has completed, and the
arm has begun, with a snapshot of the new values; held segments stay, and with RECORD_LENGTH altered every unheld one
at or above the new K is freed (R14, R87). A VIEW change without an ACQ field, in any run mode, clears the rasters,
abandons the render in flight and queues the current segment (R16), and in WAIT_SEGMENT slot choice is retried (R92).
In STOP (R14) nothing is acquired; the altered ACQ fields join the changed-while-stopped set; with RECORD_LENGTH
altered each unheld COMPLETE segment at or above the new K is freed, and what a port holds, or what is below K and
current or a member of the sequence, stays; with neither RECORD_LENGTH nor a VIEW field altered, segments and renderer
are untouched. The premises: the laws of R1, R84, R93 and R107, and the memories' form (log 33). The model's choices:
all front-end requests of a change come before the arbiter looks, and the echo timer starts in the act of sending
(logs 11 and 12), the retry of slot choice ends the act (log 27), the PROBE_COMP wave is a register (log 32). -/
def Obligations.AcqChangeDisposed : Prop :=
  ∀ (c : Instr) (s u : State) (f : Nat → Int), SetupLaw s → MemoryLaw s → AcqLaw s → RenderQueueLaw s →
    ChangeTaken c s u f → ∃ t, exec c s = .next t ∧ Disposed u t f

/-- LOCK and UNLOCK, by the holder each finds (table of R22): the holder, the LOCAL_DISABLED flag, the notice and the
answer. -/
def Obligations.LockAndUnlock : Prop :=
  (∀ (s : State) (p : Port) (ws : List Word), Offers s p kindLock ws →
    ∃ t, exec (.lock p) s = .next t
      ∧ (if s.setup.holder = some (otherPort p) then
          OnlyAnswered s t p .locked [if otherPort p = .a then 1 else 2]
        else
          Answered t p (t.port p).lost .ok [if p = .a then 1 else 2]
            ∧ RestSame
              { s with setup := { s.setup with holder := some p, localDisabled := decide (par ws 0 = 1) } } t
            ∧ (if s.setup.holder = none then
                t.port (otherPort p) = (s.port (otherPort p)).takeNotice (.lockChanged (some p))
                  ∧ PortKept ((s.port p).takeNotice (.lockChanged (some p))) (t.port p)
              else PortsKept s t p)))
    ∧ ∀ (s : State) (p : Port) (ws : List Word), Offers s p kindUnlock ws →
      ∃ t, exec (.unlock p) s = .next t
        ∧ (if s.setup.holder = some (otherPort p) then
            OnlyAnswered s t p .locked [if otherPort p = .a then 1 else 2]
          else if s.setup.holder = none then OnlyAnswered s t p .ok [0]
          else
            Answered t p (t.port p).lost .ok [0]
              ∧ RestSame { s with setup := { s.setup with holder := none, localDisabled := false } } t
              ∧ t.port (otherPort p) = (s.port (otherPort p)).takeNotice (.lockChanged none)
              ∧ PortKept ((s.port p).takeNotice (.lockChanged none)) (t.port p))

/-- Validation refuses a change at the first pair that names no present field, then at the first that gives an ENUM
field a value outside its set, then where both widths are named and stand out of order after clamping, the pair
reported being the one naming WIDTH_HIGH (R6, R8). Every other change is taken: each named value is brought within its
fixed limits, every other field keeps its own, the dependent limits act in their order on named and unnamed fields
alike (R7), a width that is named alone draws the other with it where they stand out of order (R8), and the change is
clamped exactly where a named field does not take the value it was given (R7). The premises are R19 step 1 and the
limits that every change leaves. -/
def Obligations.ValidationDecides : Prop :=
  ∀ (st : Straps) (cur : Nat → Int) (pairs : List (Nat × Int)), (pairs.map Prod.fst).Nodup →
    cur fidWidthLow ≤ cur fidWidthHigh →
    match validate st cur pairs with
    | .error (code, id) =>
      (code = .badField ∧ ∃ pre v post, pairs = pre ++ (id, v) :: post ∧ fieldSpec st id = none
          ∧ ∀ q ∈ pre, (fieldSpec st q.1).isSome = true)
        ∨ (code = .badValue ∧ (∀ q ∈ pairs, (fieldSpec st q.1).isSome = true)
          ∧ ∃ pre v post, pairs = pre ++ (id, v) :: post ∧ outsideSet st id v = true
            ∧ ∀ q ∈ pre, outsideSet st q.1 q.2 = false)
        ∨ (code = .badValue ∧ id = fidWidthHigh
          ∧ (∀ q ∈ pairs, (fieldSpec st q.1).isSome = true ∧ outsideSet st q.1 q.2 = false)
          ∧ ∃ lo hi, (fidWidthLow, lo) ∈ pairs ∧ (fidWidthHigh, hi) ∈ pairs
            ∧ clampInt 1 16777215 hi < clampInt 1 16777215 lo)
    | .ok (f, clamped) =>
      (∀ q ∈ pairs, (fieldSpec st q.1).isSome = true ∧ outsideSet st q.1 q.2 = false)
        ∧ (∀ lo hi, (fidWidthLow, lo) ∈ pairs → (fidWidthHigh, hi) ∈ pairs →
          clampInt 1 16777215 lo ≤ clampInt 1 16777215 hi)
        ∧ (∃ g h : Nat → Int, (∀ q ∈ pairs, BroughtWithin st q.1 q.2 (g q.1))
          ∧ (∀ id, id ∉ pairs.map Prod.fst → g id = cur id)
          ∧ DependentsLimited st g h
          ∧ (h 46 ≤ h 47 → ∀ id, f id = h id)
          ∧ (h 47 < h 46 → 46 ∈ pairs.map Prod.fst → ∀ id, f id = if id = 47 then h 46 else h id)
          ∧ (h 47 < h 46 → 47 ∈ pairs.map Prod.fst → ∀ id, f id = if id = 46 then h 47 else h id))
        ∧ (clamped = true ↔ ∃ q ∈ pairs, f q.1 ≠ q.2)

/-- The change of a recall (R9): a pair that names no present field or a PANEL field is skipped; a saved field takes
the slot's value brought within its fixed limits, or its default where the slot's value is no code of its set or no
pair names it; every other field keeps its value; the dependent limits act as on any change; widths out of order are
resolved by WIDTH_HIGH; and the change is clamped where that was done or where a pair that was taken did not give its
value. It is refused by no value: the premise, one pair for each id, is what a recall presents (R156). -/
def Obligations.RecallChangeFormed : Prop :=
  ∀ (st : Straps) (cur : Nat → Int) (pairs : List (Nat × Int)), (pairs.map Prod.fst).Nodup →
    let saved : Nat → Prop := fun id =>
      (fieldSpec st id).isSome = true ∧ classOf st id ≠ some .panel
    let f := (recallChange st cur pairs).1
    ∃ g h : Nat → Int,
      (∀ q ∈ pairs, saved q.1 → outsideSet st q.1 q.2 = false → BroughtWithin st q.1 q.2 (g q.1))
        ∧ (∀ q ∈ pairs, saved q.1 → outsideSet st q.1 q.2 = true → g q.1 = dfltOf st q.1)
        ∧ (∀ id, saved id → id ∉ pairs.map Prod.fst → g id = dfltOf st id)
        ∧ (∀ id, ¬ saved id → g id = cur id)
        ∧ DependentsLimited st g h
        ∧ (∀ id, f id = if h 47 < h 46 ∧ id = 47 then h 46 else h id)
        ∧ ((recallChange st cur pairs).2 = true ↔ h 47 < h 46 ∨ ∃ q ∈ pairs, saved q.1 ∧ f q.1 ≠ q.2)

/-! ## Panel, run control, segments and display requests -/

/-- A map write outside its range, or a rectangle outside its sizes, is refused with BAD_VALUE before any data is
taken; otherwise the data phase begins (R47 steps 1 and 2, R142, R167, R170). Its completion is CRC_ERROR with the
first failed burst; for a map write whose bursts passed, BAD_VALUE with the index of the lowest invalid entry and no
entry changed, or OK with every entry replaced at once; OK for an overlay whose bursts passed (R47 steps 3 to 5, R48,
R142, R170; that the index reported counts from the map's first entry: log 38; that the word for a burst above 65,535
is free: log 42). -/
def Obligations.DataInPhases : Prop :=
  ((∀ (s : State) (p : Port) (ws : List Word) (c : Instr) (kind : BitVec 8) (size : Nat),
    (c, kind, size) ∈ [(Instr.writeKeymap p, kindWriteKeymap, 64), (Instr.writeKnobmap p, kindWriteKnobmap, 8),
      (Instr.writeLedmap p, kindWriteLedmap, 32)] →
    Offers s p kind ws →
    ∃ t, exec c s = .next t
      ∧ (if parNat ws 1 < 1 ∨ size < parNat ws 0 + parNat ws 1 then OnlyAnswered s t p .badValue []
        else DataBegun s t p (some [])))
    ∧ ∀ (s : State) (p : Port) (ws : List Word), Offers s p kindWriteOverlay ws →
      ∃ t, exec (.writeOverlay p) s = .next t
        ∧ (if parNat ws 2 < 1 ∨ 800 < parNat ws 2 ∨ parNat ws 3 < 1 ∨ 480 < parNat ws 3 then
            OnlyAnswered s t p .badValue []
          else DataBegun s t p none))
    ∧ ∀ (s : State) (p : Port) (kind : BitVec 8) (ws : List Word),
      (s.port p).link = .executing → (s.port p).staged = some ⟨kind, ws, true⟩ →
      let first := parNat ws 0
      let table := ((s.port p).table).getD []
      ∃ t, exec (.dataInCompletion p) s = .next t
        ∧ (∀ b, (s.port p).failed = some b →
          OnlyAnswered s t p .crcError [if b < 65536 then word b else Config.wideBurst b])
        ∧ ((s.port p).failed = none →
          (kind ∉ [kindWriteKeymap, kindWriteKnobmap, kindWriteLedmap] → OnlyAnswered s t p .ok [])
            ∧ (kind = kindWriteKeymap →
              let es := readEntries readKeyEntry table
              if none ∈ es then OnlyAnswered s t p .badValue [word (first + es.findIdx (·.isNone))]
              else Answered t p (s.port p).lost .ok [] ∧ PortsKept s t p
                ∧ MapApplied s.panel.keymap t.panel.keymap first es
                ∧ RestSame { s with panel := { s.panel with keymap := t.panel.keymap } } t)
            ∧ (kind = kindWriteLedmap →
              let es := readEntries readLedEntry table
              if none ∈ es then OnlyAnswered s t p .badValue [word (first + es.findIdx (·.isNone))]
              else Answered t p (s.port p).lost .ok [] ∧ PortsKept s t p
                ∧ MapApplied s.panel.ledmap t.panel.ledmap first es
                ∧ RestSame { s with panel := { s.panel with ledmap := t.panel.ledmap } } t)
            ∧ (kind = kindWriteKnobmap →
              let es := readEntries readKnobEntry table
              if none ∈ es then OnlyAnswered s t p .badValue [word (first + es.findIdx (·.isNone))]
              else Answered t p (s.port p).lost .ok [] ∧ PortsKept s t p
                ∧ MapApplied s.panel.knobmap t.panel.knobmap first es
                ∧ (∀ e, t.panel.encs[e]? = (s.panel.encs[e]?).map fun r =>
                  if first ≤ e ∧ e < first + es.length then { r with fast := 0 } else r)
                ∧ RestSame { s with panel := { s.panel with knobmap := t.panel.knobmap, encs := t.panel.encs } } t))

/-- BEEP: frequency and duration are clamped into 100..10,000 Hz and 1..5,000 ms; the tone sounds when BEEP is ON and
no error tone sounds; the completion is CLAMPED where a value was clamped; no lock refuses it (R45, R46). -/
def Obligations.BeepSounds : Prop :=
  ∀ (s : State) (p : Port) (ws : List Word), Offers s p kindBeep ws →
    let f := max 100 (min 10000 (parNat ws 0))
    let d := max 1 (min 5000 (parNat ws 1))
    ∃ t, exec (.beep p) s = .next t
      ∧ Answered t p (s.port p).lost (if f = parNat ws 0 ∧ d = parNat ws 1 then .ok else .clamped) []
      ∧ PortsKept s t p
      ∧ t.panel.tone = (if s.fieldVal 66 = 1 then
          match s.panel.tone with
          | .error g l => .error g l
          | _ => .error f (d * 1000000)
        else s.panel.tone)
      ∧ RestSame { s with panel := { s.panel with tone := t.panel.tone } } t

/-- RUN_CONTROL: a value above 4 is BAD_VALUE and the other port's lock refuses it. With RUN, STOP, SINGLE or SEQUENCE
the run mode becomes the one requested, and the change does what ModeSet says of it (R14, R71, R82, R83, R87, R89,
R100, R101): STOP frees the filling segment, clears the tracking state and leaves the other segments, the holds, the
render queue and the rasters; RUN and SINGLE free each former member of the sequence list that nothing keeps any
longer; SEQUENCE frees every unheld COMPLETE segment; what an arm then does, ArmTakesSlot says; RUN_STATE is posted
(R106), and the response holds the mode; where it is in force already nothing moves. With FORCE the completion is OK
with the run mode; it is remembered in PRETRIG, is a trigger in READY whatever the holdoff holds, and has no effect in
any other state (R73, R76, R83). The table has a row for each, and the model's choice is that a row does nothing with
the other's value (log 4). The premise on the records' form: log 33. -/
def Obligations.RunControlRequests : Prop :=
  (∀ (s : State) (p : Port) (ws : List Word), MemoryLaw s → Offers s p kindRunControl ws →
    let v := parNat ws 0
    ∃ t, exec (.runControl p) s = .next t
      ∧ (if v = 4 then t = s
        else if 4 < v then OnlyAnswered s t p .badValue []
        else if s.setup.holder = some (otherPort p) then OnlyAnswered s t p .locked []
        else if s.acq.mode.number = v then OnlyAnswered s t p .ok [word v]
        else ∃ m : RunMode, m.number = v ∧ ModeSet s t m ∧ PostedAnswered s t p (modeNotices s m)
          ∧ Answered t p (t.port p).lost .ok [word v]))
    ∧ ∀ (s : State) (p : Port) (ws : List Word), Offers s p kindRunControl ws →
      ∃ t, exec (.runControlForce p) s = .next t
        ∧ (if parNat ws 0 ≠ 4 then t = s
          else if s.setup.holder = some (otherPort p) then OnlyAnswered s t p .locked []
          else
            Answered t p (s.port p).lost .ok [word s.acq.mode.number] ∧ PortsKept s t p
              ∧ RestSame { s with trig := t.trig, acq := t.acq } t
              ∧ (s.acq.state = .pretrig → t.acq = s.acq ∧ t.trig = { s.trig with forced := true })
              ∧ (s.acq.state = .ready →
                t.acq = { s.acq with state := .posttrig, postCount := 0 }
                  ∧ t.trig = { s.trig with
                    holdoff := (s.fieldVal 49).toNat * 10
                    autoTimer := none
                    pulse := if s.fieldVal fidAuxSource = 0 then some 100 else s.trig.pulse })
              ∧ (s.acq.state ≠ .pretrig → s.acq.state ≠ .ready → t.acq = s.acq ∧ t.trig = s.trig))

/-- HOLD and RELEASE: the references they refuse, HOLD_LIMIT at four holds, and a hold taken or given back in the
record and in the port's list together; a segment that a hold still keeps stays COMPLETE, and one that nothing keeps
is freed (R87, R102, R164; the premise on the records' form: log 33). -/
def Obligations.HoldAndRelease : Prop :=
  (∀ (s : State) (p : Port) (ws : List Word), MemoryLaw s → Offers s p kindHold ws →
    ∃ t, exec (.hold p) s = .next t
      ∧ (if AboveAll (par ws 0) then OnlyAnswered s t p .badValue []
        else match named s (par ws 0) with
          | none => OnlyAnswered s t p .noSegment []
          | some i =>
            if (s.acq.seg i).state ≠ .complete then OnlyAnswered s t p .noSegment []
            else if 4 ≤ (s.port p).holds.length then OnlyAnswered s t p .holdLimit []
            else
              Answered t p (s.port p).lost .ok [word i, word ((s.acq.seg i).portHolds p + 1)]
                ∧ (t.port p).holds = (s.port p).holds ++ [⟨i, false⟩]
                ∧ PortKept (s.port p) { t.port p with holds := (s.port p).holds }
                ∧ t.port (otherPort p) = s.port (otherPort p)
                ∧ (∀ j, t.acq.seg j = if j = i then (s.acq.seg i).updHolds p (· + 1) else s.acq.seg j)
                ∧ RestSame { s with acq := { s.acq with segs := t.acq.segs } } t))
    ∧ ∀ (s : State) (p : Port) (ws : List Word), MemoryLaw s → Offers s p kindRelease ws →
      ∃ t, exec (.release p) s = .next t
        ∧ (if AboveAll (par ws 0) then OnlyAnswered s t p .badValue []
          else match named s (par ws 0) with
            | none => OnlyAnswered s t p .noSegment []
            | some i =>
              let n := (s.acq.seg i).portHolds p
              if n = 0 then OnlyAnswered s t p .noSegment []
              else
                Answered t p (s.port p).lost .ok [word i, word (n - 1)]
                  ∧ (t.port p).holds = (s.port p).holds.erase ⟨i, false⟩
                  ∧ t.port (otherPort p) = s.port (otherPort p)
                  ∧ BlocksSame s t ∧ t.setup = s.setup ∧ t.acq.counter = s.acq.counter ∧ t.acq.mode = s.acq.mode
                  ∧ ((s.acq.seg i).state = .complete → 1 < (s.acq.seg i).holds →
                    (t.acq.seg i).state = .complete ∧ (t.acq.seg i).portHolds p = n - 1)
                  ∧ ((s.acq.seg i).state = .complete → (s.acq.seg i).holds = 1 → s.acq.state ≠ .waitSegment →
                    (s.slots ≤ i ∨ ((s.acq.seg i).current = false ∧ (s.acq.seg i).pending = false
                      ∧ i ∉ s.acq.seqList)) →
                    (t.acq.seg i).state = .free))

/-- READ_WAVEFORM: its checks in their order, the clamp of the count, the implicit hold and the response; READ_SCREEN:
the screen-read count rises and the size follows. The data phase comes after the response (R103, R145, R167). -/
def Obligations.DataOutBegins : Prop :=
  (∀ (s : State) (p : Port) (ws : List Word), MemoryLaw s → Offers s p kindReadWaveform ws →
    let ch := parNat ws 1
    let start := (par32 ws 2).toNat
    let count := (par32 ws 4).toNat
    ∃ t, exec (.readWaveform p) s = .next t
      ∧ (if AboveAll (par ws 0) ∨ ch < 1 ∨ 4 < ch ∨ count = 0 then OnlyAnswered s t p .badValue []
        else match named s (par ws 0) with
          | none => OnlyAnswered s t p .noSegment []
          | some i =>
            let g := s.acq.seg i
            let len := s.acq.segLength g
            if g.state ≠ .complete then OnlyAnswered s t p .noSegment []
            else if 4 ≤ (s.port p).holds.length then OnlyAnswered s t p .holdLimit []
            else if s.acq.snapVal g (8 * (ch - 1)) ≠ 1 ∨ len ≤ start then OnlyAnswered s t p .badValue []
            else
              Answered t p (s.port p).lost (if len - start < count then .clamped else .ok)
                  (words32 g.seq ++ wordsNat g.p ++ wordsNat (min count (len - start)))
                ∧ (t.port p).out = some (.waveform i ch start (min count (len - start)))
                ∧ (t.port p).holds = (s.port p).holds ++ [⟨i, true⟩]
                ∧ PortKept (s.port p) { t.port p with holds := (s.port p).holds }
                ∧ t.port (otherPort p) = s.port (otherPort p)
                ∧ (∀ j, t.acq.seg j = if j = i then g.updHolds p (· + 1) else s.acq.seg j)
                ∧ RestSame { s with acq := { s.acq with segs := t.acq.segs } } t))
    ∧ ∀ (s : State) (p : Port) (ws : List Word), Offers s p kindReadScreen ws →
      ∃ t, exec (.readScreen p) s = .next t
        ∧ Answered t p (s.port p).lost .ok [800, 480, 5, 56320]
        ∧ (t.port p).out = some .screen ∧ PortsKept s t p
        ∧ RestSame { s with comp := { s.comp with reads := s.comp.reads + 1 } } t

/-- SHOW_SEGMENT: its checks in their order; then the segment becomes current, the rasters are cleared, and the
segment is in the render queue or, where it is first, in render; the one that was current loses its flag and is freed
where neither a port, the sequence list nor the renderer keeps it (R87, R105; that CURRENT is no index here: log 19).
The premises of its last clauses: R84, the laws of R86 and R108; a segment without a channel to draw is drawn as it is
taken (R112). CLEAR_DISPLAY: the other port's lock refuses it; otherwise every count is 0, a decay due is applied, the
render in flight is abandoned and its segment freed where nothing else keeps it, and the queue, which the renderer
goes on with, and the current segment stay (R87, R112, R115, R118, R125); the setup, the front end, the panel, the run
mode and the samples stay, and in WAIT_SEGMENT slot choice is retried (R92; it ends the act: log 27). -/
def Obligations.ShowSegmentAndClearDisplay : Prop :=
  (∀ (s : State) (p : Port) (ws : List Word), MemoryLaw s → Offers s p kindShowSegment ws →
      let i := parNat ws 0
      ∃ t, exec (.showSegment p) s = .next t
        ∧ (if 1999 < i then OnlyAnswered s t p .badValue []
          else if s.setup.holder = some (otherPort p) then OnlyAnswered s t p .locked []
          else if s.acq.mode ≠ .stop then OnlyAnswered s t p .notStopped []
          else if (s.acq.seg i).state ≠ .complete then OnlyAnswered s t p .noSegment []
          else
            Answered t p (s.port p).lost .ok [word i] ∧ PortsKept s t p ∧ BlocksSame s t ∧ t.setup = s.setup
              ∧ t.fe = s.fe ∧ t.rend.decayDue = false ∧ t.acq.counter = s.acq.counter
              ∧ (∀ a, Cells.get 0 t.rend.rasters a = 0)
              ∧ (s.acq.state = .stopped → i < s.slots →
                (t.acq.seg i).current = true ∧ (t.acq.seg i).state = .complete ∧ t.acq.state = .stopped
                  ∧ t.trig = s.trig)
              ∧ (s.acq.state = .stopped → AcqLaw s → RenderQueueLaw s →
                (i < s.slots → s.acq.segChannels (s.acq.seg i) ≠ [] →
                  i ∈ t.rend.queue ∨ ∃ r, t.rend.render = some r ∧ RenderFormed s i r)
                ∧ ∀ j, j ≠ i → (s.acq.seg j).current = true →
                  let kept : Prop := 0 < (s.acq.seg j).holdsA + (s.acq.seg j).holdsB ∨ (j < s.slots ∧ j ∈ s.acq.seqList)
                  (t.acq.seg j).current = false
                    ∧ (kept → (t.acq.seg j).state = .complete)
                    ∧ (¬ kept → (s.acq.seg j).pending = false → t.acq.seg j = Seg.blank)
                    ∧ (¬ kept → j ∉ t.rend.queue → (∀ r, t.rend.render = some r → r.seg ≠ j) →
                      t.acq.seg j = Seg.blank))))
    ∧ ∀ (s : State) (p : Port) (ws : List Word), Offers s p kindClearDisplay ws →
      ∃ t, exec (.clearDisplay p) s = .next t
        ∧ (if s.setup.holder = some (otherPort p) then OnlyAnswered s t p .locked []
          else
            Answered t p (s.port p).lost .ok [] ∧ PortsKept s t p ∧ BlocksSame s t ∧ t.setup = s.setup
              ∧ (∀ a, Cells.get 0 t.rend.rasters a = 0) ∧ t.rend.decayDue = false
              ∧ t.acq.counter = s.acq.counter ∧ t.acq.mode = s.acq.mode ∧ t.acq.samples = s.acq.samples
              ∧ t.fe = s.fe
              ∧ (s.acq.state ≠ .waitSegment → t.trig = s.trig ∧ t.acq.state = s.acq.state)
              ∧ (MemoryLaw s → RenderQueueLaw s → ∃ v w, DisplayCleared s v ∧ Retried v w ∧ RestSame w t))

/-- FILL_OVERLAY refuses a size outside its range and an index above 15, and otherwise gives each plane position of
the rectangle that lies on the plane the index, every other position keeping its own (R143; the premise on the planes'
form: log 33). WRITE_PALETTE refuses a count of 0 and a run past entry 15, and otherwise gives the entries from the
first on their colours in one act (R144; the premise on the number of words is the frame check of R184). The other
port's overlay and the frame buffers stay. -/
def Obligations.FillOverlayAndPalette : Prop :=
  (∀ (s : State) (p : Port) (ws : List Word), MemoryLaw s → Offers s p kindFillOverlay ws →
      let x := (par ws 0).toInt
      let y := (par ws 1).toInt
      let w := parNat ws 2
      let h := parNat ws 3
      ∃ t, exec (.fillOverlay p) s = .next t
        ∧ (if w < 1 ∨ 800 < w ∨ h < 1 ∨ 480 < h ∨ 15 < parNat ws 4 then OnlyAnswered s t p .badValue []
          else
            Answered t p (s.port p).lost .ok [] ∧ PortsKept s t p
              ∧ (∀ X Y : Nat, X < 800 → Y < 480 →
                Cells.get 0 (t.comp.overlay p).plane (Y * 800 + X)
                  = if x ≤ X ∧ (X : Int) < x + w ∧ y ≤ Y ∧ (Y : Int) < y + h then BitVec.ofNat 4 (parNat ws 4)
                    else Cells.get 0 (s.comp.overlay p).plane (Y * 800 + X))
              ∧ (t.comp.overlay p).palette = (s.comp.overlay p).palette
              ∧ t.comp.overlay (otherPort p) = s.comp.overlay (otherPort p)
              ∧ RestSame { s with comp := { s.comp with ovA := t.comp.ovA, ovB := t.comp.ovB } } t))
    ∧ ∀ (s : State) (p : Port) (ws : List Word), Offers s p kindWritePalette ws → ws.length = parNat ws 1 + 2 →
      let first := parNat ws 0
      let count := parNat ws 1
      ∃ t, exec (.writePalette p) s = .next t
        ∧ (if count = 0 ∨ 16 < first + count then OnlyAnswered s t p .badValue []
          else
            Answered t p (s.port p).lost .ok [] ∧ PortsKept s t p
              ∧ (∀ i : Nat, (t.comp.overlay p).palette[i]?
                = ((s.comp.overlay p).palette[i]?).map fun c =>
                  if first ≤ i ∧ i < first + count then par ws (2 + i - first) else c)
              ∧ (t.comp.overlay p).plane = (s.comp.overlay p).plane
              ∧ t.comp.overlay (otherPort p) = s.comp.overlay (otherPort p)
              ∧ RestSame { s with comp := { s.comp with ovA := t.comp.ovA, ovB := t.comp.ovB } } t)

/-! ## The setup store -/

/-- SAVE_SETUP: a slot outside 1..16 and a name above 32 characters are BAD_VALUE, a store that is not IDLE refuses
it, and otherwise ERASING begins with the record captured in the buffer: format, slot, name, clock, source, channel
count, and every saved field in ascending id order; the completion is CLAMPED where the name was cut or a character
replaced (R153, R187). RECALL_SETUP, ERASE_SETUP, SET_STARTUP, LIST_SETUPS and SET_CLOCK: their checks in their order,
and what each begins or writes when it is accepted (R155, R157, R158, R159, R160; that the read buffer stays empty
until a recall's read ends: log 39). -/
def Obligations.StoreRequests : Prop :=
  (∀ (s : State) (p : Port) (ws : List Word), Offers s p kindSaveSetup ws →
    let slot := parNat ws 0
    let chars := (nameChars (ws.drop 2)).take (parNat ws 1)
    ∃ t, exec (.saveSetup p) s = .next t
      ∧ (if slot < 1 ∨ 16 < slot ∨ 32 < parNat ws 1 then OnlyAnswered s t p .badValue []
        else if s.store.state ≠ .idle then OnlyAnswered s t p .storeBusy []
        else
          Answered t p (s.port p).lost
              (if 16 < chars.length ∨ ∃ c ∈ chars, c.toNat < 32 ∨ 126 < c.toNat then .clamped else .ok) []
            ∧ PortsKept s t p
            ∧ RestSame { s with store := { s.store with
                state := .erasing, op := some ⟨.save, some slot, .port p, false⟩, marked := false
                buffer := t.store.buffer } } t
            ∧ t.store.buffer.take 2 = [1, word slot]
            ∧ nameChars ((t.store.buffer.drop 2).take 8)
              = ((chars.take 16).map fun c => if 32 ≤ c.toNat ∧ c.toNat ≤ 126 then c else 0x3F)
                ++ List.replicate (16 - chars.length) 0x20
            ∧ t.store.buffer.drop 10 = words32 s.store.clock
              ++ [if p = .a then 0 else 1, if s.straps.channels = .four then 4 else 2, word (savedIds s.straps).length]
              ++ (savedIds s.straps).flatMap fun i => word i :: wordsValue (s.fieldVal i)))
    ∧ (∀ (s : State) (p : Port) (ws : List Word), Offers s p kindRecallSetup ws →
    ∃ t, exec (.recallSetup p) s = .next t
      ∧ (if parNat ws 0 < 1 ∨ 16 < parNat ws 0 then OnlyAnswered s t p .badValue []
        else if s.setup.holder = some (otherPort p) then OnlyAnswered s t p .locked []
        else if s.store.state ≠ .idle then OnlyAnswered s t p .storeBusy []
        else match (s.store.entry (parNat ws 0)).state with
          | .empty => OnlyAnswered s t p .slotEmpty []
          | .corrupt => OnlyAnswered s t p .slotCorrupt []
          | .valid => Answered t p (s.port p).lost .ok [] ∧ PortsKept s t p
            ∧ RestSame { s with store := { s.store with
              state := .reading, op := some ⟨.recall, some (parNat ws 0), .port p, false⟩, buffer := [] } } t))
    ∧ (∀ (s : State) (p : Port) (ws : List Word), Offers s p kindEraseSetup ws →
      ∃ t, exec (.eraseSetup p) s = .next t
        ∧ (if parNat ws 0 < 1 ∨ 16 < parNat ws 0 then OnlyAnswered s t p .badValue []
          else if s.store.state ≠ .idle then OnlyAnswered s t p .storeBusy []
          else Answered t p (s.port p).lost .ok [] ∧ PortsKept s t p
            ∧ RestSame { s with store := { s.store with
              state := .erasing, op := some ⟨.erase, some (parNat ws 0), .port p, false⟩, marked := false
              buffer := [] } } t))
    ∧ (∀ (s : State) (p : Port) (ws : List Word), Offers s p kindSetStartup ws →
      ∃ t, exec (.setStartup p) s = .next t
        ∧ (if 16 < parNat ws 0 then OnlyAnswered s t p .badValue []
          else if s.store.state ≠ .idle then OnlyAnswered s t p .storeBusy []
          else Answered t p (s.port p).lost .ok [] ∧ PortsKept s t p
            ∧ RestSame { s with store := { s.store with
              state := .erasing, op := some ⟨.startup, some (parNat ws 0), .port p, false⟩, marked := false
              buffer := [1, par ws 0] } } t))
    ∧ (∀ (s : State) (p : Port) (ws : List Word), Offers s p kindListSetups ws →
      ∃ t, exec (.listSetups p) s = .next t
        ∧ (if s.store.state ≠ .idle then OnlyAnswered s t p .storeBusy []
          else OnlyAnswered s t p .ok (word s.store.startup :: words32 s.store.clock)
            ∧ (t.port p).out = some (.list (s.store.dir.flatMap fun e =>
              [match e.state with
                | .empty => (0 : Word)
                | .valid => 1
                | .corrupt => 2]
                ++ e.name ++ words32 e.time ++ [e.source, e.channels, e.fields]))))
    ∧ ∀ (s : State) (p : Port) (ws : List Word), Offers s p kindSetClock ws →
      ∃ t, exec (.setClock p) s = .next t
        ∧ (if s.store.state ≠ .idle then OnlyAnswered s t p .storeBusy []
          else Answered t p (s.port p).lost .ok [] ∧ PortsKept s t p
            ∧ RestSame { s with store := { s.store with
              clock := par ws 0 ++ par ws 1, clockNext := 1000000000 } } t)

/-- The stages of a write: the first word is marked 0x0000; the erase leaves every word of the sector 0xFFFF and
PROGRAMMING or, for an erase, VERIFYING follows; the record and its CRC word are programmed from the sector's first
word, and VERIFYING follows. No other word of the flash moves. (R154, R157, R158; an upset word comes out as the
access's operand says: log 13. Out of its stage each event changes nothing: log 4.) -/
def Obligations.WriteStages : Prop :=
  ∀ (s : State) (op : StoreOp) (u : FlashUpset), MemoryLaw s → s.store.op = some op →
    (∃ t, exec .firstWordMarkEnd s = .next t
      ∧ (if s.store.state = .erasing ∧ s.store.marked = false then
          t = { s with store := { s.store with marked := true, flash := t.store.flash } }
            ∧ ∀ a, Cells.get erasedWord t.store.flash a
              = if a = flashKey op.sector 0 then 0 else Cells.get erasedWord s.store.flash a
        else t = s))
    ∧ (∃ t, exec (.eraseEnd u) s = .next t
      ∧ (if s.store.state = .erasing ∧ s.store.marked = true then
          t = { s with store := { s.store with
              state := if op.kind = .erase then .verifying else .programming, marked := false
              flash := t.store.flash } }
            ∧ (∀ w < 2048, Cells.get erasedWord t.store.flash (flashKey op.sector w) = upsetWord u w 0xFFFF)
            ∧ ∀ a, (a < flashKey op.sector 0 ∨ flashKey op.sector 2047 < a) →
              Cells.get erasedWord t.store.flash a = Cells.get erasedWord s.store.flash a
        else t = s))
    ∧ ∃ t, exec (.programEnd u) s = .next t
      ∧ (if s.store.state = .programming then
          t = { s with store := { s.store with state := .verifying, flash := t.store.flash } }
            ∧ (s.store.buffer.length < 2048 →
              (∀ w < 2048, Cells.get erasedWord t.store.flash (flashKey op.sector w)
                = upsetWord u w (if w < s.store.buffer.length then s.store.buffer.getD w 0
                  else if w = s.store.buffer.length then crcOf s.store.buffer
                  else Cells.get erasedWord s.store.flash (flashKey op.sector w)))
              ∧ ∀ a, (a < flashKey op.sector 0 ∨ flashKey op.sector 2047 < a) →
                Cells.get erasedWord t.store.flash a = Cells.get erasedWord s.store.flash a)
        else t = s)

/-- The end of VERIFYING: by what the sector reads, the operation ends OK or WRITE_FAILED; the directory entry, or the
startup slot, takes its new state; the buffer is emptied and the store is IDLE; STORE_DONE is posted, and a key's
failed operation sounds the error beep (R150, R154, R157, R158, R161, R162). The premises are the kinds of a write and
the slots they have (R147). -/
def Obligations.VerifyEnds : Prop :=
  ∀ (s : State) (op : StoreOp) (n : Nat) (u : FlashUpset), s.store.state = .verifying → s.store.op = some op →
    op.slot = some n → op.kind ≠ .recall → op.kind ≠ .scan → s.store.dir.length = 16 →
    (op.kind = .startup ∨ (1 ≤ n ∧ n ≤ 16)) →
    let ws := readSector s.store.flash u op.sector
    let good := (op.kind = .save ∧ GoodRecord n ws) ∨ (op.kind = .startup ∧ GoodStartup ws)
      ∨ (op.kind = .erase ∧ ∀ w ∈ ws, w = 0xFFFF)
    ∃ t code, exec (.verifyEnd u) s = .next t
      ∧ (good → code = Code.ok) ∧ (¬ good → code = Code.writeFailed)
      ∧ t.store = { s.store with
        state := .idle, op := none, marked := false, buffer := [], dir := t.store.dir, startup := t.store.startup }
      ∧ (op.kind = .startup → t.store.dir = s.store.dir ∧ t.store.startup = if code = .ok then n else 0)
      ∧ (op.kind ≠ .startup → t.store.startup = s.store.startup ∧ t.store.dir.length = 16
        ∧ ∀ k, 1 ≤ k → k ≤ 16 → t.store.entry k
          = if k ≠ n then s.store.entry k
            else if code ≠ .ok then ⟨.corrupt, List.replicate 8 0x2020, 0, 0, 0, 0⟩
            else if op.kind = .erase then ⟨.empty, List.replicate 8 0x2020, 0, 0, 0, 0⟩
            else ⟨.valid, (ws.drop 2).take 8, ws.getD 10 0 ++ ws.getD 11 0, ws.getD 12 0, ws.getD 13 0, ws.getD 14 0⟩)
      ∧ t.portA = s.portA.takeNotice (.storeDone op.kind n code)
      ∧ t.portB = s.portB.takeNotice (.storeDone op.kind n code)
      ∧ t.panel = { s.panel with
        tone := if op.key = true ∧ code ≠ .ok then errorTone s s.panel.tone else s.panel.tone }
      ∧ RestSame { s with store := t.store, panel := t.panel } t

/-- The end of a sector read of the power-on scan: the slot's entry is EMPTY, VALID or CORRUPT by what the sector
reads; the startup sector gives the startup slot and ends the scan, whose operation record is removed; the start-up
recall begins where that slot's entry is VALID; nothing is posted (R147, R149, R150, R151, R152). That a scan whose
record is not formed yet has it formed in the act of its first read, with START as its originator, is the model's
choice (log 24). -/
def Obligations.ScanReadsSectors : Prop :=
  ∀ (s : State) (u : FlashUpset), s.store.state = .scanning → s.store.dir.length = 16 →
    1 ≤ s.store.scanAt → s.store.scanAt ≤ 17 →
    let ws := readSector s.store.flash u s.store.scanAt
    ∃ t, exec (.scanSectorReadEnd u) s = .next t ∧ t = { s with store := t.store }
      ∧ t.store.flash = s.store.flash ∧ t.store.clock = s.store.clock
      ∧ (if s.store.scanAt ≤ 16 then
          t.store.state = .scanning ∧ t.store.scanAt = s.store.scanAt + 1 ∧ t.store.startup = s.store.startup
            ∧ t.store.op = (if s.store.op = none then some ⟨.scan, none, .start, false⟩ else s.store.op)
            ∧ ∀ n, 1 ≤ n → n ≤ 16 → t.store.entry n
              = if n ≠ s.store.scanAt then s.store.entry n
                else if ws.getD 0 0 = 0xFFFF then ⟨.empty, List.replicate 8 0x2020, 0, 0, 0, 0⟩
                else if GoodRecord n ws then
                  ⟨.valid, (ws.drop 2).take 8, ws.getD 10 0 ++ ws.getD 11 0, ws.getD 12 0, ws.getD 13 0, ws.getD 14 0⟩
                else ⟨.corrupt, List.replicate 8 0x2020, 0, 0, 0, 0⟩
        else
          t.store.dir = s.store.dir
            ∧ t.store.startup = (if GoodStartup ws then (ws.getD 1 0).toNat else 0)
            ∧ (if t.store.startup ≠ 0 ∧ (s.store.entry t.store.startup).state = .valid then
                t.store.state = .reading ∧ t.store.op = some ⟨.recall, some t.store.startup, .start, false⟩
              else t.store.state = .idle ∧ t.store.op = none))

/-- The end of a recall's read: a bad record makes the entry CORRUPT and ends SLOT_CORRUPT; a lock that stands against
the originator ends it LOCKED; otherwise the change of R9 (formed as RecallChangeFormed says) is applied with the
source RECALL, its notices posted in ascending id order, and STORE_DONE after them. Only a record that checked good in
this recall is applied, and the PANEL fields keep their values (R9, R10, R152, R156, R161, R162). That all the
front-end requests of a change are made before the arbiter looks (R12, R51), and that the echo timer starts in the act
of sending, are the model's choices (logs 11 and 12). -/
def Obligations.RecallEnds : Prop :=
  ∀ (s : State) (op : StoreOp) (n : Nat) (u : FlashUpset), SetupLaw s → s.store.state = .reading →
    s.store.op = some op → s.store.dir.length = 16 → op.slot = some n → 1 ≤ n → n ≤ 16 → op.kind = .recall →
    let ws := readSector s.store.flash u n
    let locked := match op.orig with
      | .port p => s.setup.holder = some (otherPort p)
      | _ => s.setup.holder ≠ none
    let change := recallChange s.straps s.fieldVal (recordPairs ws)
    ∃ t code, exec (.recallReadEnd u) s = .next t
      ∧ t.store = { s.store with state := .idle, op := none, marked := false, buffer := [], dir := t.store.dir }
      ∧ (¬ GoodRecord n ws → code = Code.slotCorrupt)
      ∧ (GoodRecord n ws → locked → code = Code.locked)
      ∧ (GoodRecord n ws → ¬ locked →
        code = if change.2 = true ∧ alteredIds s change.1 ≠ [] then .clamped else .ok)
      ∧ (∀ k, 1 ≤ k → k ≤ 16 → t.store.entry k
          = if k = n ∧ ¬ GoodRecord n ws then ⟨.corrupt, List.replicate 8 0x2020, 0, 0, 0, 0⟩ else s.store.entry k)
      ∧ t.panel = { s.panel with
        tone := if op.key = true ∧ code ≠ .ok ∧ code ≠ .clamped then errorTone s s.panel.tone else s.panel.tone }
      ∧ ((¬ GoodRecord n ws ∨ locked) →
        t = State.post { s with store := t.store, panel := t.panel } (.storeDone .recall n code))
      ∧ (GoodRecord n ws → ¬ locked →
        ∃ x, Applied s x .recall change.1 ∧ Posted s x (changeNotices s .recall change.1)
          ∧ (∀ id ∈ presentIds s.straps, classOf s.straps id = some .panel → x.fieldVal id = s.fieldVal id)
          ∧ t = State.post { x with store := t.store, panel := t.panel } (.storeDone .recall n code))

/-! ## Events -/

/-- How a port takes a posted notice: a class its mask excludes leaves no trace; an unread notice of the same kind and
key is updated in place (SETUP_CHANGED by the newer one, PANEL_KNOB by the saturated sum, SEGMENT_DONE with its merge
count); otherwise it is added at the tail while fewer than 64 wait, and discarded with LOST set where 64 do (R175,
R176). -/
def Obligations.NoticeTaken : Prop :=
  ∀ (ps : PortState) (n : Notice), QueueLaw ps.queue →
    let t := ps.takeNotice n
    (ps.noticeMask.getLsbD (noticeBit n) = false → t = ps)
      ∧ (ps.noticeMask.getLsbD (noticeBit n) = true →
        (∀ (k : Nat) (id : Nat) v g src v' g' src', n = .setupChanged id v' g' src' →
          ps.queue[k]? = some (.setupChanged id v g src) → t = { ps with queue := ps.queue.set k n })
        ∧ (∀ (k e : Nat) (c d : Int), n = .panelKnob e d → ps.queue[k]? = some (.panelKnob e c) →
          t = { ps with queue := ps.queue.set k (.panelKnob e (max (-127) (min 127 (c + d)))) })
        ∧ (∀ (k i j m m' : Nat) q q' a a', n = .segmentDone j q' a' m' → ps.queue[k]? = some (.segmentDone i q a m) →
          t = { ps with queue := ps.queue.set k (.segmentDone j q' a' (min 65535 (m + 1))) })
        ∧ ((∀ m ∈ ps.queue, sameKey n m = false) →
          t = if ps.queue.length < 64 then { ps with queue := ps.queue ++ [n] } else { ps with lost := true }))

/-- The expiries: the beeper becomes SILENT (R45); the clock counts a second (R160); the holdoff counter is 0 (R72);
the TRIG_OUT pulse ends; the PROBE_COMP wave takes the level of its half period (R79); an LED drive takes its
condition, blink phase and brightness (R43, R44); the auto timer takes an AUTO trigger in READY (R75, R73); its expiry
changes nothing in another state, and that it changes nothing while the timer is stopped is the model's choice (log
4). That an expiry's command acts whatever the count stands at, and that a drive takes its state as its period begins,
are the model's choices (logs 3 and 36); the premise on the records' form: log 33. -/
def Obligations.TimerExpiries : Prop :=
  (∀ s : State, exec .toneExpiry s = .next { s with panel := { s.panel with tone := .silent } })
    ∧ (∀ s : State, exec .clockRise s
        = .next { s with store := { s.store with clock := s.store.clock + 1, clockNext := 1000000000 } })
    ∧ (∀ s : State, exec .holdoffExpiry s = .next { s with trig := { s.trig with holdoff := 0 } })
    ∧ (∀ s : State, exec .trigOutPulseEnd s = .next { s with trig := { s.trig with pulse := none } })
    ∧ (∀ s : State, exec .probeCompEdge s
        = .next { s with trig := { s.trig with probe := decide (s.baseTick.toNat % 1000000 < 500000) } })
    ∧ (∀ (s : State) (l : Nat), ∃ t, exec (.ledPwmPeriod l) s = .next t
        ∧ t = { s with panel := { s.panel with leds := t.panel.leds } }
        ∧ (∀ i, i ≠ l → t.panel.leds[i]? = s.panel.leds[i]?)
        ∧ (l < s.panel.leds.length →
          let e := s.panel.ledmap.getD l ⟨.off, false⟩
          (Lit s e.source ∧ (e.blink = true → s.panel.blinkOn = true) →
            t.panel.leds[l]? = some ((s.fieldVal 64).toNat * 17))
          ∧ (¬ (Lit s e.source ∧ (e.blink = true → s.panel.blinkOn = true)) → t.panel.leds[l]? = some 0)))
    ∧ ∀ s : State, MemoryLaw s → ∃ t, exec .autoTimerExpiry s = .next t
        ∧ (if s.trig.autoTimer ≠ none ∧ s.acq.state = .ready then
          t = { s with
              trig := { s.trig with
                holdoff := (s.fieldVal 49).toNat * 10
                autoTimer := none
                pulse := if s.fieldVal fidAuxSource = 0 then some 100 else s.trig.pulse }
              acq := { s.acq with state := .posttrig, postCount := 0, segs := t.acq.segs } }
            ∧ ∀ j, t.acq.seg j
              = if s.acq.fillingIdx = some j then { s.acq.seg j with auto := true } else s.acq.seg j
        else t = s)

/-- A scan tick samples every key and encoder that the panel variant scans: a key's debounce record follows its table,
a raw level different for three scans in a row being accepted as a press or a release; an encoder's decoder counts
one-step transitions of its lines, the fourth in a row in one direction giving a detent. The events accepted are taken
one by one, each as its own command takes it, at the latest before the samples of the next tick (R26, R27, R38; their
queue: log 22). -/
def Obligations.ScanTick : Prop :=
  (∀ (s : State) (keys : BitVec 64) (a b : BitVec 8),
    let nk := if s.straps.panel = .l then 64 else 48
    let ne := if s.straps.panel = .l then 8 else 6
    let cwOf : Bool × Bool → Bool × Bool := fun l => (l.2, !l.1)
    s.panel.due = [] →
    ∃ t ev, exec (.scanTick keys a b) s = .next t
      ∧ t = { s with panel := { s.panel with
          scanTimer := 1000000, keys := t.panel.keys, encs := t.panel.encs, due := ev } }
      ∧ (∀ i, t.panel.keys[i]? = (s.panel.keys[i]?).map fun k =>
          if i < nk then
            (if keys.getLsbD i = k.pressed then ⟨k.pressed, 0⟩
            else if k.count < 2 then ⟨k.pressed, k.count + 1⟩
            else ⟨keys.getLsbD i, 0⟩)
          else k)
      ∧ (∀ e, t.panel.encs[e]? = (s.panel.encs[e]?).map fun r =>
          let new := (a.getLsbD e, b.getLsbD e)
          if e < ne then
            { r with
              ref := some new
              ticks := min 41 (r.ticks + 1)
              part := match r.ref with
                | none => r.part
                | some old =>
                  if new = cwOf old then (if r.part = 3 then 0 else if r.part < 0 then 1 else r.part + 1)
                  else if old = cwOf new then (if r.part = -3 then 0 else if 0 < r.part then -1 else r.part - 1)
                  else r.part }
          else r)
      ∧ (∀ i, PanelEvent.press i ∈ ev ↔ i < nk ∧ keys.getLsbD i = true
          ∧ ∃ k, s.panel.keys[i]? = some k ∧ k.pressed = false ∧ 2 ≤ k.count)
      ∧ (∀ i, PanelEvent.release i ∈ ev ↔ i < nk ∧ keys.getLsbD i = false
          ∧ ∃ k, s.panel.keys[i]? = some k ∧ k.pressed = true ∧ 2 ≤ k.count)
      ∧ ∀ e cw, PanelEvent.detent e cw ∈ ev ↔ e < ne
          ∧ ∃ r old, s.panel.encs[e]? = some r ∧ r.ref = some old
            ∧ (if cw = true then (a.getLsbD e, b.getLsbD e) = cwOf old ∧ r.part = 3
              else old = cwOf (a.getLsbD e, b.getLsbD e) ∧ r.part = -3))
    ∧ ∀ (s : State) (keys : BitVec 64) (a b : BitVec 8) (e : PanelEvent) (rest : List PanelEvent),
      s.panel.due = e :: rest →
      ∃ u, exec (match e with
        | .press k => .keyPress k
        | .release k => .keyRelease k
        | .detent n cw => .detent n cw) s = .next u
        ∧ u.panel.due = rest ∧ exec (.scanTick keys a b) s = exec (.scanTick keys a b) u

/-- A press of a scanned key clicks and takes the action of its key map entry (R28 to R36): a lock standing refuses
every action on the setup, the acquisition or the display with the error beep; NONE does nothing, REPORT posts a
notice, the run-control keys set the mode, FORCE is remembered in PRETRIG and is a trigger in READY (R73, R76), CLEAR
does what CLEAR_DISPLAY does (R31, R125), DEFAULT, CHANNEL and SET_FIELD present their changes, RECALL and SAVE start
their operations where the store is IDLE, SAVE with the record captured in the buffer, source PANEL (R148, R153), and
LOCAL ends the lock unless it is disabled. A release posts a notice where the entry is REPORT. A press or a release of
a key that is not scanned only leaves the waiting events (logs 4 and 22). That the read buffer is empty as a recall
begins is the model's choice (log 39). The premise on the records' form: log 33. That all the front-end requests of a
change are made before the arbiter looks (R12, R51), and that the echo timer starts in the act of sending, are the
model's choices (logs 11 and 12). -/
def Obligations.KeyEvents : Prop :=
  (∀ (s : State) (k : Nat), SetupLaw s → MemoryLaw s →
    let u0 := { s with panel := { s.panel with due := s.panel.due.erase (.press k) } }
    let u := { u0 with panel := { u0.panel with tone := clickTone s } }
    let refused := { u with panel := { u.panel with tone := errorTone s (clickTone s) } }
    let modeSet : RunMode → State → Prop := fun m t =>
      (s.acq.mode = m → t = u) ∧ (s.acq.mode ≠ m → ModeSet u t m ∧ Posted u t (modeNotices u m))
    ∃ t, exec (.keyPress k) s = .next t
      ∧ (if k < keysOf s then
          match s.panel.keymap.getD k .none with
          | .none => t = u
          | .report => t = u.post (.panelKey k true)
          | .runStop => if s.setup.holder ≠ none then t = refused
              else modeSet (if s.acq.mode = .stop then .run else .stop) t
          | .single => if s.setup.holder ≠ none then t = refused else modeSet .single t
          | .sequence => if s.setup.holder ≠ none then t = refused else modeSet .sequence t
          | .force => if s.setup.holder ≠ none then t = refused
              else (s.acq.state = .pretrig → t = { u with trig := { s.trig with forced := true } })
                ∧ (s.acq.state = .ready → t = { u with
                    acq := { s.acq with state := .posttrig, postCount := 0 }
                    trig := { s.trig with
                      holdoff := (s.fieldVal 49).toNat * 10
                      autoTimer := none
                      pulse := if s.fieldVal fidAuxSource = 0 then some 100 else s.trig.pulse } })
                ∧ (s.acq.state ≠ .pretrig → s.acq.state ≠ .ready → t = u)
          | .clear => if s.setup.holder ≠ none then t = refused
              else (∀ a, Cells.get 0 t.rend.rasters a = 0) ∧ t.rend.decayDue = false ∧ BlocksSame u t
                ∧ t.setup = s.setup ∧ t.acq.mode = s.acq.mode ∧ t.portA = s.portA ∧ t.portB = s.portB
                ∧ (RenderQueueLaw s → ∃ v, DisplayCleared u v ∧ Retried v t)
          | .dflt => if s.setup.holder ≠ none then t = refused
              else Applied u t .dflt (defaultValues s) ∧ Posted u t (changeNotices u .dflt (defaultValues s))
          | .recall n => if s.setup.holder ≠ none ∨ s.store.state ≠ .idle ∨ (s.store.entry n).state ≠ .valid then
                t = refused
              else t = { u with store := { s.store with
                state := .reading, op := some ⟨.recall, some n, .panel, true⟩, buffer := [] } }
          | .save n => if s.store.state ≠ .idle then t = refused
              else t = { u with store := { s.store with
                  state := .erasing, op := some ⟨.save, some n, .panel, true⟩, marked := false
                  buffer := t.store.buffer } }
                ∧ t.store.buffer.take 2 = [1, word n]
                ∧ nameChars ((t.store.buffer.drop 2).take 8)
                  = [0x53, 0x4C, 0x4F, 0x54, 0x20, BitVec.ofNat 8 (48 + n / 10), BitVec.ofNat 8 (48 + n % 10)].map
                    (fun c : BitVec 8 => if 32 ≤ c.toNat ∧ c.toNat ≤ 126 then c else 0x3F) ++ List.replicate 9 0x20
                ∧ t.store.buffer.drop 10 = words32 s.store.clock
                  ++ [2, if s.straps.channels = .four then 4 else 2, word (savedIds s.straps).length]
                  ++ (savedIds s.straps).flatMap fun i => word i :: wordsValue (s.fieldVal i)
          | .channel n => if (if s.straps.channels = .four then 4 else 2) < n ∨ s.setup.holder ≠ none then t = refused
              else EditMade u t .panel (channelEdit s n)
          | .setField f v => if s.setup.holder ≠ none then t = refused
              else EditMade u t .panel [(fieldNamed s f, v)]
          | .localKey => if s.setup.holder = none then t = u
              else if s.setup.localDisabled = true then t = refused
              else t = State.post
                { u with setup := { s.setup with holder := none, localDisabled := false } } (.lockChanged none)
        else t = u0))
    ∧ ∀ (s : State) (k : Nat),
      let u := { s with panel := { s.panel with due := s.panel.due.erase (.release k) } }
      exec (.keyRelease k) s = .next
        (if k < keysOf s ∧ s.panel.keymap.getD k .none = .report then
          u.post (.panelKey k false) else u)

/-- A detent of a scanned encoder: the record counts a fast run of detents in one direction at most 40 ms apart; a
REPORT entry posts a PANEL_KNOB count of one to each port; a field entry moves its field by the step, or the
accelerated step after four fast ones, times the direction: an ENUM field by members, with TRIG_SOURCE going round, an
INT field by value; a standing lock refuses it with the error beep (R39 to R42, R36). That a detent taken leaves the
waiting events, and that one of an encoder that is not scanned does no more, are the model's choices (logs 22 and 4).
That all the front-end requests of a change are made before the arbiter looks (R12, R51), and that the echo timer
starts in the act of sending, are the model's choices (logs 11 and 12). -/
def Obligations.DetentTurns : Prop :=
  ∀ (s : State) (e : Nat) (cw : Bool), SetupLaw s →
    let edited : State → Nat → State → Prop := fun u id t =>
      if s.setup.holder ≠ none then t = { u with panel := { u.panel with tone := errorTone s s.panel.tone } }
      else ∃ v, DetentValue s e cw id v ∧ EditMade u t .panel [(id, v)]
    ∃ t, exec (.detent e cw) s = .next t
      ∧ (if e < encodersOf s then
          ∃ u, DetentCounted s e cw u
            ∧ match (s.panel.knobmap.getD e ⟨.report, 0, 0⟩).target with
              | .report => t = u.post (.panelKnob e (if cw = true then 1 else -1))
              | .fixed id => edited u id t
              | .front q => edited u (fieldNamed s (.front q)) t
        else t = { s with panel := { s.panel with due := s.panel.due.erase (.detent e cw) } })

/-- Echoes, the echo timer and the settle timers. A stray echo is discarded; an equal echo confirms the sent settings,
clears the fault and starts the settle timer, 5 ms where a relay moved and 100 µs otherwise; with a request pending
the channel is WAITING instead. An unequal echo and an expiry of the echo timer are mismatches: the first resends at
once with the next tag and the live settings, the second ends the update in FAULT, flags the filling segment and posts
FE_FAULT. A confirmation and a failure free the link and stop the echo timer, and the arbiter sends the next waiting
channel's frame, if there is one (R50 to R57, R186). A SETTLING acquisition then arms (R58). An expired settle timer
stops; what a SETTLING acquisition does then, ArmTakesSlot says. The echo timer starts in the act of sending, and an
expiry's command acts whatever the count stands at: the model's choices (logs 12 and 3). That a settle expiry of a
channel the part does not have, or of a timer that is stopped, changes nothing is the model's choice too (log 4). The
premises on the channels and on the records' form: R49, log 33. -/
def Obligations.FrontEndEvents : Prop :=
  (∀ (s : State) (w : Word),
    (s.fe.link = none ∨ (∃ f, s.fe.link = some f ∧ w.extractLsb' 12 4 ≠ f.word.extractLsb' 12 4)) →
    exec (.echo w) s = .next s)
    ∧ (∀ (s : State) (f : Flight) (c : ChanRec) (w : Word), s.fe.link = some f → 1 ≤ f.chan →
      s.fe.chans[f.chan - 1]? = some c → w.extractLsb' 12 4 = f.word.extractLsb' 12 4 →
      w.extractLsb' 2 10 = f.word.extractLsb' 2 10 →
      let moved := match c.confirmed with
        | none => true
        | some k => c.relayMoved || decide (c.sent.div100 ≠ k.div100) || decide (c.sent.coupling ≠ k.coupling)
      let confirmed := { c with confirmed := some c.sent, fault := false, relayMoved := moved, pendingLatest := false }
      let d := if c.pendingLatest = true then { confirmed with upd := .waiting, attempt := 1, settle := none }
        else { confirmed with upd := .idle, settle := some (if moved = true then 5000000 else 100000) }
      ∃ u t, exec (.echo w) s = .next t ∧ Inner s t ∧ u = { s with fe := u.fe } ∧ LinkFreed s u.fe f.chan d
        ∧ (s.acq.state ≠ .settling → t = u) ∧ (s.acq.state = .settling → MemoryLaw s → Armed u t))
    ∧ (∀ (s : State) (f : Flight) (c : ChanRec) (ev : Instr), MemoryLaw s → s.fe.link = some f → 1 ≤ f.chan →
      s.fe.chans[f.chan - 1]? = some c →
      (ev = .echoTimeout ∨ (∃ w, ev = .echo w ∧ w.extractLsb' 12 4 = f.word.extractLsb' 12 4
        ∧ w.extractLsb' 2 10 ≠ f.word.extractLsb' 2 10)) →
      ∃ u t, exec ev s = .next t ∧ Inner s t
        ∧ (s.acq.state ≠ .settling → t = u) ∧ (s.acq.state = .settling → Armed u t)
        ∧ (c.attempt = 1 → ∃ g w,
          SettingsOfFields g (s.fieldVal (8 * (f.chan - 1) + 1)) (s.fieldVal (8 * (f.chan - 1) + 3))
            (s.fieldVal (8 * (f.chan - 1) + 4))
          ∧ FrameCarries w (s.fe.tag + 1) f.chan g
          ∧ u = { s with fe := { s.fe with
            chans := s.fe.chans.set (f.chan - 1)
              { c with upd := .awaitEcho, attempt := 2, sent := g, pendingLatest := false }
            link := some ⟨f.chan, w⟩, tag := s.fe.tag + 1, lastServed := f.chan, echoTimer := some 200000 } })
        ∧ (c.attempt ≠ 1 →
          let failed := { c with fault := true, pendingLatest := false }
          LinkFreed s u.fe f.chan
              (if c.pendingLatest = true then { failed with upd := .waiting, attempt := 1 }
              else { failed with upd := .idle })
            ∧ u = { s with
              fe := u.fe
              acq := { s.acq with segs := u.acq.segs }
              portA := s.portA.takeNotice (.feFault f.chan)
              portB := s.portB.takeNotice (.feFault f.chan) }
            ∧ ∀ j, u.acq.seg j = { s.acq.seg j with fault := (u.acq.seg j).fault }
              ∧ ∀ b < 4, (u.acq.seg j).fault.getLsbD b = ((s.acq.seg j).fault.getLsbD b
                || decide (s.acq.fillingIdx = some j ∧ f.chan ∈ s.acq.segChannels (s.acq.seg j) ∧ b = f.chan - 1))))
    ∧ ∀ (s : State) (ch : Nat),
      ∃ t, exec (.settleExpiry ch) s = .next t
        ∧ (if 1 ≤ ch ∧ ch ≤ (if s.straps.channels = .four then 4 else 2)
              ∧ (s.fe.chans[ch - 1]?).bind (·.settle) ≠ none then
            Inner s t ∧ t.fe = { s.fe with chans := t.fe.chans } ∧ t.portA = s.portA ∧ t.portB = s.portB
              ∧ (s.acq.state ≠ .settling → t = { s with fe := t.fe })
              ∧ ∀ i, t.fe.chans[i]? = (s.fe.chans[i]?).map fun c =>
                if i = ch - 1 then { c with settle := none, relayMoved := false } else c
          else t = s)

/-- A kept sample while segment i is FILLING, up to its last (R60, R70, R94 to R96). In PRETRIG it moves the trackers,
the EXT filter and the width counter and is written at the next position, and with the last of the pretrigger part the
state is READY, with the auto timer started where TRIG_MODE is AUTO (R74), or POSTTRIG by a remembered FORCE, whose
trigger loads HOLDOFF and starts the TRIG_OUT pulse (R72, R73, R77, R79). In READY it moves the trackers; a sample
that is a candidate with the holdoff counter at 0 is the trigger sample, any other is written over the oldest of the
pretrigger part. In POSTTRIG it is written at the next position and nothing is tracked, and the first sample after an
AUTO or FORCE trigger gives the timestamp (R73). While no segment is FILLING it has no effect (the model's choice: log
4), and the decimator is set to a whole interval by each kept sample (log 37). What makes a sample a candidate:
TriggerDecision; the last sample: SegmentCompletes. The premise on the records' form: log 33. -/
def Obligations.KeptSample : Prop :=
  ∀ (s : State) (c1 c2 c3 c4 : Byte) (ext : Bool), MemoryLaw s →
    let codes := [c1, c2, c3, c4]
    ∃ t, exec (.keptSample c1 c2 c3 c4 ext) s = .next t ∧ Inner s t
      ∧ (s.acq.fillingIdx = none → t = s)
      ∧ ∀ i, s.acq.fillingIdx = some i →
        let g := s.acq.seg i
        let len := s.acq.segLength g
        let v := s.acq.snapVal g
        let moved := (s.trig.track v (codes.getD (v 41).toNat 0).toNat ext).1
        let taken := { moved with
          holdoff := (s.fieldVal 49).toNat * 10
          autoTimer := none
          pulse := if s.fieldVal fidAuxSource = 0 then some 100 else s.trig.pulse }
        let trigger : Prop :=
          (s.trig.track v (codes.getD (v 41).toNat 0).toNat ext).2 = true ∧ s.trig.holdoff = 0
        let written : Nat → Prop := fun pos => ∀ a, Cells.get 0 t.acq.samples a
          = match (s.acq.segChannels g).find? fun n => a == (n - 1) * 20000000 + i * len + pos with
            | some n => codes.getD (n - 1) 0
            | none => Cells.get 0 s.acq.samples a
        (s.acq.state = .pretrig →
          written s.acq.fillCount ∧ t.acq.fillCount = s.acq.fillCount + 1 ∧ t.acq.counter = s.acq.counter
            ∧ t.acq.decim = some (intervalOf (v 32))
            ∧ t.acq.state = (if s.acq.fillCount + 1 < g.p then .pretrig
              else if s.trig.forced = true then .posttrig else .ready)
            ∧ t.trig = (if s.acq.fillCount + 1 < g.p then moved
              else if s.trig.forced = true then { taken with forced := false }
              else if s.fieldVal 48 = 0 then { moved with autoTimer := some ((s.fieldVal 50).toNat * 1000000) }
              else moved)
            ∧ t.acq.postCount = (if s.acq.fillCount + 1 < g.p ∨ s.trig.forced = false then s.acq.postCount else 0)
            ∧ ∀ j, t.acq.seg j = s.acq.seg j)
        ∧ (s.acq.state = .ready → ¬ trigger →
          t.acq.state = .ready ∧ t.acq.counter = s.acq.counter
            ∧ t.trig = moved
            ∧ (g.p = 0 → t.acq.samples = s.acq.samples)
            ∧ (g.p ≠ 0 → written g.wrap ∧ (t.acq.seg i).wrap = (g.wrap + 1) % g.p))
        ∧ (s.acq.state = .ready → trigger → g.p + 1 < len →
          t.acq.state = .posttrig ∧ t.acq.counter = s.acq.counter ∧ t.acq.postCount = 1 ∧ written g.p
            ∧ (t.acq.seg i).time = s.baseTick ∧ t.trig = taken)
        ∧ (s.acq.state = .posttrig → g.p + s.acq.postCount + 1 < len →
          t.acq.state = .posttrig ∧ t.acq.counter = s.acq.counter ∧ t.acq.postCount = s.acq.postCount + 1
            ∧ written (g.p + s.acq.postCount) ∧ t.trig = s.trig
            ∧ (t.acq.seg i).time = (if s.acq.postCount = 0 then s.baseTick else g.time))

/-- The last sample of segment i, by which it completes (R96, R97): a sample of POSTTRIG, or the trigger sample itself
where the pretrigger part leaves room for one sample or none (P = N - 1, P = N). The sample is written where room is
left, the completion is counted, the record is COMPLETE and current with its sequence number, timestamp and OVERRANGE
flags, the tracking state is clear, and SEGMENT_DONE is posted. In RUN the segment is handed to the renderer and the
next arm begins; in SINGLE it is handed over and the mode is STOP (R98); in SEQUENCE it joins the list and the count,
and the sequence ends, with the hand-off, SEQUENCE_DONE and STOP, when the count reaches SEGMENTS or no slot above it
is free, and goes on otherwise (R99). (In RUN a segment with no channel, which nothing draws, may be reused at once:
R90.) The premises are the laws of R84, R86, R88, R93, R107 and R108, a slot below K, and the records' form: log 33.
-/
def Obligations.SegmentCompletes : Prop :=
  ∀ (s : State) (c1 c2 c3 c4 : Byte) (ext : Bool) (i : Nat), MemoryLaw s → AcqLaw s → SnapshotLaw s →
    RenderQueueLaw s → s.acq.fillingIdx = some i → i < s.slots →
    let codes := [c1, c2, c3, c4]
    let g := s.acq.seg i
    let len := s.acq.segLength g
    let v := s.acq.snapVal g
    let chans := s.acq.segChannels g
    let k := if s.acq.state = .ready then 0 else s.acq.postCount
    ((s.acq.state = .ready ∧ (s.trig.track v (codes.getD (v 41).toNat 0).toNat ext).2 = true ∧ s.trig.holdoff = 0)
      ∨ s.acq.state = .posttrig) →
    len ≤ g.p + k + 1 →
    let handed : State → Prop := fun t => i ∈ t.rend.queue ∨ ∃ r, t.rend.render = some r ∧ r.seg = i
    let stopped : State → Prop := fun t =>
      t.acq.mode = .stop ∧ t.acq.state = .stopped ∧ t.trig.holdoff = 0 ∧ t.trig.forced = false ∧ t.trig.autoTimer = none
    let done : Notice := .segmentDone i (s.acq.counter + 1) g.auto 0
    let ended : State → Prop := fun t =>
      stopped t ∧ (chans ≠ [] → handed t)
        ∧ Posted s t [done, .sequenceDone (s.acq.seqCount + 1), .runState .stop]
    ∃ t, exec (.keptSample c1 c2 c3 c4 ext) s = .next t ∧ Inner s t
      ∧ t.acq.counter = s.acq.counter + 1
      ∧ (g.p < len → ∀ a, Cells.get 0 t.acq.samples a
        = match chans.find? fun n => a == (n - 1) * 20000000 + i * len + (g.p + k) with
          | some n => codes.getD (n - 1) 0
          | none => Cells.get 0 s.acq.samples a)
      ∧ (len ≤ g.p → t.acq.samples = s.acq.samples)
      ∧ t.trig.lowSeen = false ∧ t.trig.highSeen = false ∧ t.trig.wstate = .idle ∧ t.trig.wcount = 0
      ∧ t.trig.ext = .none ∧ t.trig.extCount = 0
      ∧ (s.acq.mode ≠ .run ∨ chans ≠ [] →
        let h := t.acq.seg i
        h.state = .complete ∧ h.current = true ∧ h.seq = s.acq.counter + 1 ∧ h.p = g.p ∧ h.auto = g.auto
          ∧ h.time = (if k = 0 then s.baseTick else g.time) ∧ h.fault = g.fault ∧ h.snap = g.snap
          ∧ ∀ c : Fin 4, h.ovr.getLsbD c = true ↔ (c : Nat) + 1 ∈ chans
            ∧ ∃ q < len, t.acq.sample i (c + 1) q = 0 ∨ t.acq.sample i (c + 1) q = 255)
      ∧ (s.acq.mode = .run →
        t.acq.mode = .run ∧ ArmLeft s t ∧ (chans ≠ [] → handed t) ∧ Posted s t [done]
          ∧ (s.acq.state = .ready → t.trig.holdoff = (s.fieldVal 49).toNat * 10))
      ∧ (s.acq.mode = .single → stopped t ∧ (chans ≠ [] → handed t) ∧ Posted s t [done, .runState .stop])
      ∧ (s.acq.mode = .sequence →
        let full : Prop := ((s.acq.seqCount + 1 : Nat) : Int) = s.fieldVal 35
        t.acq.seqCount = s.acq.seqCount + 1 ∧ i ∈ t.acq.seqList
          ∧ (full ∨ i + 1 = s.slots → ended t)
          ∧ ((∀ j, i < j → j < s.slots → ¬ SlotFree s j) →
            (∀ j, (s.acq.seg j).current = true → j ∈ s.acq.seqList ∧ j < s.slots) → ended t)
          ∧ (¬ full → (∃ j, i < j ∧ j < s.slots ∧ SlotFree s j) →
            t.acq.mode = .sequence ∧ ArmLeft s t ∧ ¬ handed t ∧ Posted s t [done]))

/-- One column step, taken once its samples have been read (log 20): every pixel of the column's span takes one hit,
saturating at 255, no other pixel moves, and the render goes on to the next column, the next channel, or its end
(R114, R120, R121). At the end of the render the segment is no longer render-pending and is freed where nothing keeps
it, a decay due is applied to every count, and the next segment waiting is taken (R87, R114, R123, R124). That a step
with no render in flight changes nothing is the model's choice (log 4). Not stated here: a step taken in WAIT_SEGMENT,
and a next segment that has no channel to draw. The premises: a channel number is 1 to 4, a column 0 to 499 (R112); no
arm waits for the segment (R92); the law of the queue (R107, R108); the records' form (log 33). -/
def Obligations.RenderColumnStep : Prop :=
  ∀ s : State, MemoryLaw s → RenderQueueLaw s → s.acq.state ≠ .waitSegment →
    ∃ t, exec .renderColumnStep s = .next t ∧ Inner s t
      ∧ (s.rend.render = none → t = s)
      ∧ ∀ (r : Render) (m : ChanMap), s.rend.render = some r → r.chans[r.hand]? = some m → 1 ≤ m.ch → r.col < 500 →
        (r.read < (r.col + 1) * r.bin + (if 0 < r.start then 1 else 0) → t = s)
        ∧ ((r.col + 1) * r.bin + (if 0 < r.start then 1 else 0) ≤ r.read →
          let last : Prop := r.col + 1 = 500 ∧ r.hand + 1 = r.chans.length
          let g := s.acq.seg r.seg
          let kept : Prop := 0 < g.holdsA + g.holdsB ∨ (r.seg < s.slots ∧ (g.current = true ∨ r.seg ∈ s.acq.seqList))
          (∀ ch col row : Nat, 1 ≤ ch → col < 500 → row < 400 →
            let old := (Cells.get 0 s.rend.rasters (((ch - 1) * 500 + col) * 400 + row)).toNat
            let new := (Cells.get 0 t.rend.rasters (((ch - 1) * 500 + col) * 400 + row)).toNat
            let decayed : Nat → Nat := fun c =>
              if last ∧ s.rend.decayDue = true then decayedCount (s.fieldVal 59) (s.fieldVal 60) c else c
            (ch = m.ch → col = r.col → RowHit s r m row → new = decayed (min 255 (old + 1)))
              ∧ (¬ (ch = m.ch ∧ col = r.col ∧ RowHit s r m row) → new = decayed old))
          ∧ (r.col + 1 < 500 → t = { s with rend := { s.rend with
              rasters := t.rend.rasters
              render := some { r with
                col := r.col + 1
                prevRow := if r.bin = 0 then none
                  else some (rowOf m.pos m.inv
                    (s.acq.sample r.seg m.ch (r.start + r.col * r.bin + (r.bin - 1)))) } } })
          ∧ (r.col + 1 = 500 → r.hand + 1 < r.chans.length → t = { s with rend := { s.rend with
              rasters := t.rend.rasters
              render := some { r with hand := r.hand + 1, col := 0, prevRow := none, read := 0 } } })
          ∧ (last →
              (kept → t.acq.seg r.seg = { g with pending := false }) ∧ (¬ kept → t.acq.seg r.seg = Seg.blank)
                ∧ (s.rend.queue = [] → t.rend.render = none ∧ t.rend.queue = [] ∧ t.rend.decayDue = false
                  ∧ ∀ j, j ≠ r.seg → t.acq.seg j = s.acq.seg j)
                ∧ ∀ i q, s.rend.queue = i :: q → s.acq.segChannels (s.acq.seg i) ≠ [] →
                  t.rend.queue = q ∧ t.rend.decayDue = false ∧ (∃ x, t.rend.render = some x ∧ RenderFormed s i x)
                    ∧ ∀ j, j ≠ r.seg → t.acq.seg j = s.acq.seg j))

/-- A frame expiry: the frame timer starts again, a waiting compositor takes the build's inputs, a decay becomes due
and is consumed at once by an idle renderer, and the blink count rises (R44, R122, R123, R128, R129). A build ends
once the compositor's last access has been served; the image then stands whole in the back buffer, and the buffers
flip, or the flip is held while a screen read stands (R130, R172; the words of an access: log 21; an end that comes
before: log 4; the buffer that a refresh reads: log 31). The premise is the law of R129. -/
def Obligations.FrameAndBuild : Prop :=
  (∀ s : State, ∃ t, exec .frameExpiry s = .next t
    ∧ t = { s with comp := t.comp, rend := t.rend, panel := t.panel }
    ∧ t.comp = { s.comp with
        frameTimer := 16667000, refresh := .front, state := t.comp.state, build := t.comp.build
        built := t.comp.built }
    ∧ (s.comp.state ≠ .waiting → t.comp.state = s.comp.state ∧ t.comp.build = s.comp.build
        ∧ t.comp.built = s.comp.built)
    ∧ (s.comp.state = .waiting → t.comp.state = .composing ∧ t.comp.built = 0
        ∧ ∃ b, t.comp.build = some b ∧ b.rasters = s.rend.rasters ∧ b.changed = s.setup.changed
          ∧ b.channels = (if s.straps.channels = .four then 4 else 2)
          ∧ b.current = (s.acq.currentIdx.map fun i => ((s.acq.seg i).ovr, (s.acq.seg i).fault))
          ∧ b.holder = s.setup.holder ∧ b.mode = s.acq.mode ∧ b.ovA = s.comp.ovA ∧ b.ovB = s.comp.ovB
          ∧ ∀ id ∈ presentIds s.straps, b.val id = s.fieldVal id)
    ∧ t.rend = (match s.rend.render with
      | some _ => { s.rend with decayDue := true }
      | none => { s.rend with
        decayDue := false, rasters := decayRasters (s.fieldVal 59) (s.fieldVal 60) s.rend.rasters })
    ∧ t.panel = (if s.panel.blinkCount + 1 < 32 then { s.panel with blinkCount := s.panel.blinkCount + 1 }
      else { s.panel with blinkCount := 0, blinkOn := !s.panel.blinkOn }))
    ∧ ∀ s : State, BuildLaw s → ∃ t, exec .buildEnd s = .next t
      ∧ (∀ b, s.comp.state = .composing → s.comp.build = some b → s.comp.built = 384000 →
        (s.comp.reads = 0 → t = { s with comp := { s.comp with
              state := .waiting, front := s.comp.back, back := s.comp.front, refresh := t.comp.refresh
              build := none, built := 0 } }
          ∧ t.comp.refresh = (match s.comp.refresh with
            | .none => .none
            | .front => .back
            | .back => .front)
          ∧ ∀ X Y, X < 800 → Y < 480 → Cells.get 0 t.comp.front (Y * 800 + X) = pixelAt b X Y)
        ∧ (s.comp.reads ≠ 0 → t = { s with comp := { s.comp with state := .flipHeld, build := none, built := 0 } }
          ∧ ∀ X Y, X < 800 → Y < 480 → Cells.get 0 t.comp.back (Y * 800 + X) = pixelAt b X Y))
      ∧ (s.comp.state ≠ .composing ∨ s.comp.build = none ∨ s.comp.built < 384000 → t = s)

/-! ## The ports -/

/-- A power-on reset gives every block its reset values with the straps sampled, keeps the flash but for the sector of
an operation the cut has struck, and sends the first frame, of channel 1 with tag 1 (R52, R59, R163; what the cut
leaves in the sector is the command's operand: log 14). A port reset ends the port's request and holds, its lock and
its overlay, gives back its screen read, with the flip where that was the last in FLIP_HELD (R130, R145), and leaves
the setup, the run mode and the other port; a segment it held stays COMPLETE where something else keeps it and is
freed where nothing does, and in WAIT_SEGMENT slot choice is retried (R87, R92, R102; it ends the act: log 27); PRST
released, the port is as it stands (R24, R164, R174). That the reset command ends with that frame sent is deduced (log
10); that it ends with the scan begun (log 24), that the echo timer then stands at its start (log 12), that a port
reset keeps the word last read (log 8) and that it leaves no word to be discarded (log 40), are the model's choices.
The premise on the memories' form: log 33. -/
def Obligations.Resets : Prop :=
  (∀ (s : State) (st : Straps) (n : Nat) (u : FlashUpset), MemoryLaw s →
    ∃ t, exec (.powerOnReset st n u) s = .next t
      ∧ t = { State.resetWith st t.store.flash with
          fe := t.fe, pending := s.pending
          store := { (State.resetWith st t.store.flash).store with op := some ⟨.scan, none, .start, false⟩ } }
      ∧ (∃ w, t.fe.link = some ⟨1, w⟩ ∧ FrameCarries w 1 1 ⟨false, 8, 0, false⟩) ∧ t.fe.tag = 1
      ∧ t.fe.echoTimer = some 200000
      ∧ (∀ i, t.fe.chans[i]? = if i = 0 then some { ChanRec.initial with upd := .awaitEcho }
          else if i < (if st.channels = .four then 4 else 2) then some ChanRec.initial else none)
      ∧ ((s.store.op = none ∨ (s.store.state ≠ .erasing ∧ s.store.state ≠ .programming)
          ∨ (s.store.state = .erasing ∧ s.store.marked = false)) → t.store.flash = s.store.flash)
      ∧ ∀ op, s.store.op = some op →
        (s.store.state = .erasing → s.store.marked = true →
          Cells.get erasedWord t.store.flash (flashKey op.sector 0) = 0
            ∧ (∀ w, 1 ≤ w → w < 2048 → Cells.get erasedWord t.store.flash (flashKey op.sector w)
              = upsetWord u w (Cells.get erasedWord s.store.flash (flashKey op.sector w)))
            ∧ ∀ a, (a < flashKey op.sector 0 ∨ flashKey op.sector 2047 < a) →
              Cells.get erasedWord t.store.flash a = Cells.get erasedWord s.store.flash a)
        ∧ (s.store.state = .programming → ∀ a, Cells.get erasedWord t.store.flash a
          = if flashKey op.sector 0 ≤ a ∧ a < flashKey op.sector 0 + min n s.store.buffer.length then
              s.store.buffer.getD (a - flashKey op.sector 0) 0
            else Cells.get erasedWord s.store.flash a))
    ∧ (∀ (s : State) (p : Port), MemoryLaw s →
      let cleared := { PortState.initial with prst := true, readWord := (s.port p).readWord }
      ∃ t, exec (.portReset p) s = .next t
        ∧ (if s.setup.holder = some p then
            t.port p = cleared.takeNotice (.lockChanged none)
              ∧ t.port (otherPort p) = (s.port (otherPort p)).takeNotice (.lockChanged none)
              ∧ t.setup = { s.setup with holder := none, localDisabled := false }
          else t.port p = cleared ∧ t.port (otherPort p) = s.port (otherPort p) ∧ t.setup = s.setup)
        ∧ (t.comp.overlay p).palette = greyRamp ∧ (∀ a, Cells.get 0 (t.comp.overlay p).plane a = 0)
        ∧ t.comp.overlay (otherPort p) = s.comp.overlay (otherPort p)
        ∧ (∃ c, t.comp = { c with ovA := t.comp.ovA, ovB := t.comp.ovB }
          ∧ ((s.port p).out = some .screen → ScreenReadEnded s.comp c)
          ∧ ((s.port p).out ≠ some .screen → c = s.comp))
        ∧ ((∀ i, (s.acq.seg i).portHolds p = (s.port p).holds.countP fun h => h.seg == i) →
          ∀ i, (t.acq.seg i).portHolds p = 0)
        ∧ (PortHoldLaw s p → RenderQueueLaw s → ∃ v,
          HoldsGivenBack s v p (fun j => (s.acq.seg j).portHolds p) ∧ Retried v t)
        ∧ t.acq.mode = s.acq.mode ∧ t.acq.counter = s.acq.counter ∧ t.panel = s.panel ∧ t.store = s.store
        ∧ t.fe = s.fe ∧ t.straps = s.straps ∧ t.baseTick = s.baseTick ∧ t.pending = s.pending)
    ∧ ∀ (s : State) (p : Port), ∃ t, exec (.prstRelease p) s = .next t
      ∧ t.port p = { s.port p with prst := false } ∧ t.port (otherPort p) = s.port (otherPort p) ∧ RestSame s t

/-- An abort, by the link state it finds: none in IDLE, and none on the unread response of a request without data to
give; otherwise the request ends with its data phase, its staged table and its first failed burst, what it held is
given back, with the flip where a screen read was the last in FLIP_HELD, and the segment of a READ_WAVEFORM, which
stays COMPLETE with one hold less where something still keeps it and is freed where nothing does (R87, R102), slot
choice being retried in WAIT_SEGMENT (R92; it ends the act: log 27), and the response is ABORTED with no words. It is
ignored while PRST is asserted (R130, R173, R174; that the acknowledge and the words to be discarded stay: log 34;
that a refused request has no data to give: log 41; the premise on the memories' form: log 33; the laws of R102 and
R107 are the premises of what becomes of the segment). -/
def Obligations.AbortEnds : Prop :=
  ∀ (s : State) (p : Port), MemoryLaw s →
    ∃ t, exec (.abort p) s = .next t
      ∧ (if (s.port p).prst = true ∨ (s.port p).link = .idle
            ∨ ((s.port p).link = .responding ∧ (s.port p).out = none) then t = s
        else RequestGone (t.port p) ∧
          match (s.port p).out with
          | some (.waveform i _ _ _) =>
            Answered t p (s.port p).lost .aborted []
              ∧ PortKept { s.port p with holds := (s.port p).holds.erase ⟨i, true⟩ } (t.port p)
              ∧ t.port (otherPort p) = s.port (otherPort p)
              ∧ BlocksSame s t ∧ t.setup = s.setup ∧ t.acq.counter = s.acq.counter ∧ t.acq.mode = s.acq.mode
              ∧ ((s.acq.seg i).state = .complete → 1 < (s.acq.seg i).holds →
                (t.acq.seg i).state = .complete ∧ (t.acq.seg i).portHolds p = (s.acq.seg i).portHolds p - 1)
              ∧ (PortHoldLaw s p → RenderQueueLaw s → ∃ v w,
                HoldsGivenBack s v p (fun j => if j = i then 1 else 0) ∧ Retried v w ∧ RestSame w t)
          | some .screen =>
            Answered t p (s.port p).lost .aborted [] ∧ PortsKept s t p
              ∧ RestSame { s with comp := t.comp } t
              ∧ ScreenReadEnded s.comp t.comp
          | _ => OnlyAnswered s t p .aborted [])

/-- The words a master writes, by the codes on its mark lines (R181). START: ACCEPTED in IDLE, with BAD_FRAME at once
for a count above 64, BUSY otherwise, its FRAME words to be discarded and the wait of a read over (log 43). FRAME: a
parameter, or the CRC word with its checks, of the CRC and of the kind with its parameter count (R185). DATA: a word
of the burst, BAD_FRAME in RECEIVING. CHECK: the burst is judged, its first failure kept, a table staged or pixels
stored, and the data phase ends with the last word that the request needs. Every word is discarded while PRST is
asserted (R142, R165, R166, R170, R174, R183; an unread acknowledge and words to be discarded: logs 16 and 17). -/
def Obligations.WordsWritten : Prop :=
  (∀ (p : Port) (w : Word), markCommand p 0 w = .startWord p w ∧ markCommand p 1 w = .frameWord p w
      ∧ markCommand p 2 w = .dataWord p w ∧ markCommand p 3 w = .checkWord p w)
    ∧ (∀ (s : State) (p : Port) (w : Word),
    let count := w.toNat % 256
    ∃ t, exec (.startWord p w) s = .next t ∧ t.port (otherPort p) = s.port (otherPort p) ∧ RestSame s t
      ∧ (if (s.port p).prst = true ∨ (s.port p).ack ≠ .none then t = s
        else if (s.port p).link = .idle ∧ (s.port p).discard = 0 then
          (if 64 < count then
            Answered t p (s.port p).lost .badFrame []
              ∧ PortKept { s.port p with ack := .accepted } (t.port p)
          else t.port p = { s.port p with ack := .accepted, link := .receiving, header := w, rx := [] })
        else t.port p = { s.port p with ack := .busy, discard := count + 1, waiting := false }))
    ∧ (∀ (s : State) (p : Port) (w : Word),
      let ps := s.port p
      let kind : BitVec 8 := ps.header.extractLsb' 8 8
      ∃ t, exec (.frameWord p w) s = .next t ∧ t.port (otherPort p) = s.port (otherPort p) ∧ RestSame s t
        ∧ (if ps.prst = true then t = s
          else if 0 < ps.discard then t.port p = { ps with discard := ps.discard - 1 }
          else if ps.link ≠ .receiving then t = s
          else if ps.rx.length < ps.header.toNat % 256 then t.port p = { ps with rx := ps.rx ++ [w] }
          else if crcOf (ps.header :: ps.rx) ≠ w then OnlyAnswered s t p .badFrame []
          else if ¬ KindTakes kind ps.rx then OnlyAnswered s t p .badRequest []
          else t.port p = { ps with
            link := .executing, staged := some ⟨kind, ps.rx, false⟩, header := 0, rx := [] }))
    ∧ (∀ (s : State) (p : Port) (w : Word),
      ∃ t, exec (.dataWord p w) s = .next t ∧ t.port (otherPort p) = s.port (otherPort p) ∧ RestSame s t
        ∧ (if (s.port p).prst = true then t = s
          else if (s.port p).link = .receiving then OnlyAnswered s t p .badFrame []
          else if (s.port p).link = .dataIn then
            t.port p = { s.port p with inBurst := (s.port p).inBurst ++ [w] }
          else t = s))
    ∧ ∀ (s : State) (p : Port) (w : Word), MemoryLaw s →
      let ps := s.port p
      ∃ t, exec (.checkWord p w) s = .next t ∧ t.port (otherPort p) = s.port (otherPort p)
        ∧ (if ps.prst = true then t = s
          else if ps.link = .receiving then OnlyAnswered s t p .badFrame []
          else if ps.link = .dataIn then
            ∀ kind prm dd, ps.staged = some ⟨kind, prm, dd⟩ →
              let x := (par prm 0).toInt
              let y := (par prm 1).toInt
              let wd := parNat prm 2
              let ht := parNat prm 3
              let need := if kind = kindWriteOverlay then (wd * ht + 3) / 4 else parNat prm 1 * 4
              let got := ps.inBurst.take (need - ps.counted)
              let full := need ≤ ps.counted + ps.inBurst.length
              let good := ps.inBurst.length ≤ 512 ∧ crcOf ps.inBurst = w
              t.port p = { ps with
                  failed := if ps.failed = none ∧ ¬ good then some ps.burst else ps.failed
                  table := if kind = kindWriteOverlay then ps.table else some (ps.table.getD [] ++ got)
                  counted := ps.counted + ps.inBurst.length
                  burst := ps.burst + 1
                  inBurst := []
                  staged := some ⟨kind, prm, decide full⟩
                  link := if full then .executing else .dataIn }
                ∧ RestSame { s with comp := { s.comp with ovA := t.comp.ovA, ovB := t.comp.ovB } } t
                ∧ t.comp.overlay (otherPort p) = s.comp.overlay (otherPort p)
                ∧ (t.comp.overlay p).palette = (s.comp.overlay p).palette
                ∧ (¬ (kind = kindWriteOverlay ∧ good) → t.comp = s.comp)
                ∧ (kind = kindWriteOverlay → good →
                  (∀ X Y : Nat, X < 800 → Y < 480 → ¬ (x ≤ X ∧ (X : Int) < x + wd ∧ y ≤ Y ∧ (Y : Int) < y + ht) →
                    Cells.get 0 (t.comp.overlay p).plane (Y * 800 + X)
                      = Cells.get 0 (s.comp.overlay p).plane (Y * 800 + X))
                  ∧ ∀ q X Y : Nat, q < wd * ht → X < 800 → Y < 480 → (X : Int) = x + (q % wd : Nat) →
                    (Y : Int) = y + (q / wd : Nat) →
                    Cells.get 0 (t.comp.overlay p).plane (Y * 800 + X)
                      = if 4 * ps.counted ≤ q ∧ q / 4 < ps.counted + got.length then
                          (got.getD (q / 4 - ps.counted) 0).extractLsb' (12 - 4 * (q % 4)) 4
                        else Cells.get 0 (s.comp.overlay p).plane (Y * 800 + X))
          else t = s)

/-- A word read gives, in this order: 0xFFFF while PRST is asserted; the pending acknowledge; the next word of the
response, with DATA_OUT or IDLE after its last; the next data word of a burst, from its source, when its access has
been served; the burst's CRC word, the last of which ends the request and gives back what it held, with the flip where
a screen read was the last in FLIP_HELD, the segment of a READ_WAVEFORM staying COMPLETE with one hold less where
something still keeps it and being freed where nothing does (R87, R102), slot choice being retried in WAIT_SEGMENT
(R92; it ends the act: log 27); 0xFFFF otherwise (R103, R130, R145, R159, R165, R168, R169, R174; the wait for an
access, which gives the word when it is served: log 20; the premise on the memories' form: log 33; the laws of R102
and R107 are the premises of what becomes of the segment). -/
def Obligations.WordReadGives : Prop :=
  ∀ (s : State) (p : Port), MemoryLaw s →
    let ps := s.port p
    let idle := { ps with
      link := .idle, header := 0, rx := [], staged := none, response := none, out := none, burst := 0, word := 0
      crc := 0xB3C5, fetched := 0, waiting := false, inBurst := [], counted := 0, failed := none, table := none }
    ∃ t, exec (.wordRead p) s = .next t ∧ t.port (otherPort p) = s.port (otherPort p)
      ∧ (if ps.prst = true then t.port p = { ps with readWord := 0xFFFF } ∧ RestSame s t
        else if ps.ack ≠ .none then
          t.port p = { ps with ack := .none, readWord := if ps.ack = .busy then 2 else 0 } ∧ RestSame s t
        else
          match ps.link, ps.response, ps.out with
          | .responding, some r, out =>
            let w := r.words.getD r.pos 0xFFFF
            RestSame s t ∧ t.port p = (if r.pos + 1 < r.words.length then
                { ps with readWord := w, response := some ⟨r.words, r.pos + 1⟩ }
              else if out = none then { idle with readWord := w }
              else { ps with readWord := w, response := none, link := .dataOut })
          | .dataOut, _, some d =>
            let total := wordsOf d
            let value := dataWordAt s d (512 * ps.burst + ps.word)
            if ps.word < min 512 (total - 512 * ps.burst) then
              ((∀ l, d ≠ .list l) → ps.fetched = 0 → RestSame s t ∧ t.port p = { ps with waiting := true })
                ∧ (ps.fetched ≠ 0 ∨ (∃ l, d = .list l) → RestSame s t ∧ t.port p = { ps with
                  readWord := value, crc := crcWord ps.crc value, word := ps.word + 1, fetched := ps.fetched - 1 })
            else if 512 * (ps.burst + 1) < total then
              RestSame s t ∧ t.port p = { ps with
                readWord := ps.crc, crc := 0xB3C5, word := 0, burst := ps.burst + 1 }
            else match d with
              | .list _ => RestSame s t ∧ t.port p = { idle with readWord := ps.crc }
              | .screen => t.port p = { idle with readWord := ps.crc } ∧ RestSame { s with comp := t.comp } t
                ∧ ScreenReadEnded s.comp t.comp
              | .waveform i _ _ _ =>
                t.port p = { idle with readWord := ps.crc, holds := ps.holds.erase ⟨i, true⟩ }
                  ∧ BlocksSame s t ∧ t.setup = s.setup ∧ t.acq.counter = s.acq.counter ∧ t.acq.mode = s.acq.mode
                  ∧ ((s.acq.seg i).state = .complete → 1 < (s.acq.seg i).holds →
                    (t.acq.seg i).state = .complete
                      ∧ (t.acq.seg i).portHolds p = (s.acq.seg i).portHolds p - 1)
                  ∧ (PortHoldLaw s p → RenderQueueLaw s → ∃ v w,
                    HoldsGivenBack s v p (fun j => if j = i then 1 else 0) ∧ Retried v w ∧ RestSame w t)
          | _, _, _ => t.port p = { ps with readWord := 0xFFFF } ∧ RestSame s t)

/-- The turns of the two shared memories: of the claimants, the first in the cyclic order engine, PORT_A, PORT_B from
the one after the last served is served with one access of 16 words, and becomes the last served; with no claim
nothing moves. A port claims while a word read of its data waits, and so a master that pauses claims nothing (R126,
R165, R171, R172; what an access carries and when an engine claims one: logs 20 and 21). -/
def Obligations.MemoryTurns : Prop :=
  let order : Claimant → List Claimant := fun
    | .engine => [.portA, .portB, .engine]
    | .portA => [.portB, .engine, .portA]
    | .portB => [.engine, .portA, .portB]
  (∀ s : State,
    let claims : Claimant → Prop := fun
      | .engine => ∃ r, s.rend.render = some r ∧ r.read < (r.col + 1) * r.bin + (if 0 < r.start then 1 else 0)
      | .portA => WantsWords s.portA false
      | .portB => WantsWords s.portB false
    ∃ t, exec .sampleMemoryAccess s = .next t ∧ ((∀ c, ¬ claims c) → t = s)
      ∧ ∀ pre c post, order s.memLast = pre ++ c :: post → claims c → (∀ x ∈ pre, ¬ claims x) →
        t.memLast = c ∧ match c with
          | .engine => ∃ r, s.rend.render = some r
            ∧ t = { s with memLast := .engine, rend := { s.rend with render := some { r with
              read := min (r.len + (if 0 < r.start then 1 else 0)) (r.read + 32) } } }
          | .portA => ServedPort s .a t.portA ∧ t = { s with memLast := .portA, portA := t.portA }
          | .portB => ServedPort s .b t.portB ∧ t = { s with memLast := .portB, portB := t.portB })
    ∧ ∀ s : State, MemoryLaw s →
      let claims : Claimant → Prop := fun
        | .engine => s.comp.state = .composing ∧ s.comp.built < 384000
        | .portA => WantsWords s.portA true
        | .portB => WantsWords s.portB true
      ∃ t, exec .frameBufferAccess s = .next t ∧ ((∀ c, ¬ claims c) → t = s)
        ∧ ∀ pre c post, order s.fbLast = pre ++ c :: post → claims c → (∀ x ∈ pre, ¬ claims x) →
          t.fbLast = c ∧ match c with
            | .engine =>
              t = { s with fbLast := .engine, comp := { s.comp with
                  back := t.comp.back, built := min 384000 (s.comp.built + 16) } }
                ∧ ∀ b, s.comp.build = some b → ∀ k, Cells.get 0 t.comp.back k
                  = if s.comp.built ≤ k ∧ k < min 384000 (s.comp.built + 16) then pixelAt b (k % 800) (k / 800)
                    else Cells.get 0 s.comp.back k
            | .portA => ServedPort s .a t.portA ∧ t = { s with fbLast := .portA, portA := t.portA }
            | .portB => ServedPort s .b t.portB ∧ t = { s with fbLast := .portB, portB := t.portB }
end

