-- ==== Sys2Proof/Laws/State.lean ====
section
/-!
SUPPORT. One lemma for each field of the state that a named update leaves as it was, so that no proof unfolds an update
to read a field; and the ports after an update of one of them.
-/

namespace Sys2Proof.Machine

@[simp] theorem State.updPort_pending (s : State) (p : Port) (f : PortState → PortState) : (s.updPort p f).pending = s.pending := rfl
@[simp] theorem State.updPort_straps (s : State) (p : Port) (f : PortState → PortState) : (s.updPort p f).straps = s.straps := rfl
@[simp] theorem State.updPort_baseTick (s : State) (p : Port) (f : PortState → PortState) : (s.updPort p f).baseTick = s.baseTick := rfl
@[simp] theorem State.updPort_setup (s : State) (p : Port) (f : PortState → PortState) : (s.updPort p f).setup = s.setup := rfl
@[simp] theorem State.updPort_panel (s : State) (p : Port) (f : PortState → PortState) : (s.updPort p f).panel = s.panel := rfl
@[simp] theorem State.updPort_fe (s : State) (p : Port) (f : PortState → PortState) : (s.updPort p f).fe = s.fe := rfl
@[simp] theorem State.updPort_trig (s : State) (p : Port) (f : PortState → PortState) : (s.updPort p f).trig = s.trig := rfl
@[simp] theorem State.updPort_acq (s : State) (p : Port) (f : PortState → PortState) : (s.updPort p f).acq = s.acq := rfl
@[simp] theorem State.updPort_rend (s : State) (p : Port) (f : PortState → PortState) : (s.updPort p f).rend = s.rend := rfl
@[simp] theorem State.updPort_comp (s : State) (p : Port) (f : PortState → PortState) : (s.updPort p f).comp = s.comp := rfl
@[simp] theorem State.updPort_store (s : State) (p : Port) (f : PortState → PortState) : (s.updPort p f).store = s.store := rfl
@[simp] theorem State.updPort_memLast (s : State) (p : Port) (f : PortState → PortState) : (s.updPort p f).memLast = s.memLast := rfl
@[simp] theorem State.updPort_fbLast (s : State) (p : Port) (f : PortState → PortState) : (s.updPort p f).fbLast = s.fbLast := rfl

@[simp] theorem State.post_pending (s : State) (n : Notice) : (s.post n).pending = s.pending := rfl
@[simp] theorem State.post_straps (s : State) (n : Notice) : (s.post n).straps = s.straps := rfl
@[simp] theorem State.post_baseTick (s : State) (n : Notice) : (s.post n).baseTick = s.baseTick := rfl
@[simp] theorem State.post_setup (s : State) (n : Notice) : (s.post n).setup = s.setup := rfl
@[simp] theorem State.post_panel (s : State) (n : Notice) : (s.post n).panel = s.panel := rfl
@[simp] theorem State.post_fe (s : State) (n : Notice) : (s.post n).fe = s.fe := rfl
@[simp] theorem State.post_trig (s : State) (n : Notice) : (s.post n).trig = s.trig := rfl
@[simp] theorem State.post_acq (s : State) (n : Notice) : (s.post n).acq = s.acq := rfl
@[simp] theorem State.post_rend (s : State) (n : Notice) : (s.post n).rend = s.rend := rfl
@[simp] theorem State.post_comp (s : State) (n : Notice) : (s.post n).comp = s.comp := rfl
@[simp] theorem State.post_store (s : State) (n : Notice) : (s.post n).store = s.store := rfl
@[simp] theorem State.post_memLast (s : State) (n : Notice) : (s.post n).memLast = s.memLast := rfl
@[simp] theorem State.post_fbLast (s : State) (n : Notice) : (s.post n).fbLast = s.fbLast := rfl

@[simp] theorem State.respondLost_pending (s : State) (p : Port) (l : Bool) (c : Code) (ws : List Word) : (s.respondLost p l c ws).pending = s.pending := rfl
@[simp] theorem State.respondLost_straps (s : State) (p : Port) (l : Bool) (c : Code) (ws : List Word) : (s.respondLost p l c ws).straps = s.straps := rfl
@[simp] theorem State.respondLost_baseTick (s : State) (p : Port) (l : Bool) (c : Code) (ws : List Word) : (s.respondLost p l c ws).baseTick = s.baseTick := rfl
@[simp] theorem State.respondLost_setup (s : State) (p : Port) (l : Bool) (c : Code) (ws : List Word) : (s.respondLost p l c ws).setup = s.setup := rfl
@[simp] theorem State.respondLost_panel (s : State) (p : Port) (l : Bool) (c : Code) (ws : List Word) : (s.respondLost p l c ws).panel = s.panel := rfl
@[simp] theorem State.respondLost_fe (s : State) (p : Port) (l : Bool) (c : Code) (ws : List Word) : (s.respondLost p l c ws).fe = s.fe := rfl
@[simp] theorem State.respondLost_trig (s : State) (p : Port) (l : Bool) (c : Code) (ws : List Word) : (s.respondLost p l c ws).trig = s.trig := rfl
@[simp] theorem State.respondLost_acq (s : State) (p : Port) (l : Bool) (c : Code) (ws : List Word) : (s.respondLost p l c ws).acq = s.acq := rfl
@[simp] theorem State.respondLost_rend (s : State) (p : Port) (l : Bool) (c : Code) (ws : List Word) : (s.respondLost p l c ws).rend = s.rend := rfl
@[simp] theorem State.respondLost_comp (s : State) (p : Port) (l : Bool) (c : Code) (ws : List Word) : (s.respondLost p l c ws).comp = s.comp := rfl
@[simp] theorem State.respondLost_store (s : State) (p : Port) (l : Bool) (c : Code) (ws : List Word) : (s.respondLost p l c ws).store = s.store := rfl
@[simp] theorem State.respondLost_memLast (s : State) (p : Port) (l : Bool) (c : Code) (ws : List Word) : (s.respondLost p l c ws).memLast = s.memLast := rfl
@[simp] theorem State.respondLost_fbLast (s : State) (p : Port) (l : Bool) (c : Code) (ws : List Word) : (s.respondLost p l c ws).fbLast = s.fbLast := rfl

@[simp] theorem State.respond_pending (s : State) (p : Port) (c : Code) (ws : List Word) : (s.respond p c ws).pending = s.pending := rfl
@[simp] theorem State.respond_straps (s : State) (p : Port) (c : Code) (ws : List Word) : (s.respond p c ws).straps = s.straps := rfl
@[simp] theorem State.respond_baseTick (s : State) (p : Port) (c : Code) (ws : List Word) : (s.respond p c ws).baseTick = s.baseTick := rfl
@[simp] theorem State.respond_setup (s : State) (p : Port) (c : Code) (ws : List Word) : (s.respond p c ws).setup = s.setup := rfl
@[simp] theorem State.respond_panel (s : State) (p : Port) (c : Code) (ws : List Word) : (s.respond p c ws).panel = s.panel := rfl
@[simp] theorem State.respond_fe (s : State) (p : Port) (c : Code) (ws : List Word) : (s.respond p c ws).fe = s.fe := rfl
@[simp] theorem State.respond_trig (s : State) (p : Port) (c : Code) (ws : List Word) : (s.respond p c ws).trig = s.trig := rfl
@[simp] theorem State.respond_acq (s : State) (p : Port) (c : Code) (ws : List Word) : (s.respond p c ws).acq = s.acq := rfl
@[simp] theorem State.respond_rend (s : State) (p : Port) (c : Code) (ws : List Word) : (s.respond p c ws).rend = s.rend := rfl
@[simp] theorem State.respond_comp (s : State) (p : Port) (c : Code) (ws : List Word) : (s.respond p c ws).comp = s.comp := rfl
@[simp] theorem State.respond_store (s : State) (p : Port) (c : Code) (ws : List Word) : (s.respond p c ws).store = s.store := rfl
@[simp] theorem State.respond_memLast (s : State) (p : Port) (c : Code) (ws : List Word) : (s.respond p c ws).memLast = s.memLast := rfl
@[simp] theorem State.respond_fbLast (s : State) (p : Port) (c : Code) (ws : List Word) : (s.respond p c ws).fbLast = s.fbLast := rfl

@[simp] theorem State.respondOut_pending (s : State) (p : Port) (c : Code) (ws : List Word) (d : DataOut) : (s.respondOut p c ws d).pending = s.pending := rfl
@[simp] theorem State.respondOut_straps (s : State) (p : Port) (c : Code) (ws : List Word) (d : DataOut) : (s.respondOut p c ws d).straps = s.straps := rfl
@[simp] theorem State.respondOut_baseTick (s : State) (p : Port) (c : Code) (ws : List Word) (d : DataOut) : (s.respondOut p c ws d).baseTick = s.baseTick := rfl
@[simp] theorem State.respondOut_setup (s : State) (p : Port) (c : Code) (ws : List Word) (d : DataOut) : (s.respondOut p c ws d).setup = s.setup := rfl
@[simp] theorem State.respondOut_panel (s : State) (p : Port) (c : Code) (ws : List Word) (d : DataOut) : (s.respondOut p c ws d).panel = s.panel := rfl
@[simp] theorem State.respondOut_fe (s : State) (p : Port) (c : Code) (ws : List Word) (d : DataOut) : (s.respondOut p c ws d).fe = s.fe := rfl
@[simp] theorem State.respondOut_trig (s : State) (p : Port) (c : Code) (ws : List Word) (d : DataOut) : (s.respondOut p c ws d).trig = s.trig := rfl
@[simp] theorem State.respondOut_acq (s : State) (p : Port) (c : Code) (ws : List Word) (d : DataOut) : (s.respondOut p c ws d).acq = s.acq := rfl
@[simp] theorem State.respondOut_rend (s : State) (p : Port) (c : Code) (ws : List Word) (d : DataOut) : (s.respondOut p c ws d).rend = s.rend := rfl
@[simp] theorem State.respondOut_comp (s : State) (p : Port) (c : Code) (ws : List Word) (d : DataOut) : (s.respondOut p c ws d).comp = s.comp := rfl
@[simp] theorem State.respondOut_store (s : State) (p : Port) (c : Code) (ws : List Word) (d : DataOut) : (s.respondOut p c ws d).store = s.store := rfl
@[simp] theorem State.respondOut_memLast (s : State) (p : Port) (c : Code) (ws : List Word) (d : DataOut) : (s.respondOut p c ws d).memLast = s.memLast := rfl
@[simp] theorem State.respondOut_fbLast (s : State) (p : Port) (c : Code) (ws : List Word) (d : DataOut) : (s.respondOut p c ws d).fbLast = s.fbLast := rfl

@[simp] theorem State.setSeg_pending (s : State) (i : Nat) (g : Seg) : (s.setSeg i g).pending = s.pending := rfl
@[simp] theorem State.setSeg_straps (s : State) (i : Nat) (g : Seg) : (s.setSeg i g).straps = s.straps := rfl
@[simp] theorem State.setSeg_baseTick (s : State) (i : Nat) (g : Seg) : (s.setSeg i g).baseTick = s.baseTick := rfl
@[simp] theorem State.setSeg_setup (s : State) (i : Nat) (g : Seg) : (s.setSeg i g).setup = s.setup := rfl
@[simp] theorem State.setSeg_panel (s : State) (i : Nat) (g : Seg) : (s.setSeg i g).panel = s.panel := rfl
@[simp] theorem State.setSeg_fe (s : State) (i : Nat) (g : Seg) : (s.setSeg i g).fe = s.fe := rfl
@[simp] theorem State.setSeg_trig (s : State) (i : Nat) (g : Seg) : (s.setSeg i g).trig = s.trig := rfl
@[simp] theorem State.setSeg_rend (s : State) (i : Nat) (g : Seg) : (s.setSeg i g).rend = s.rend := rfl
@[simp] theorem State.setSeg_comp (s : State) (i : Nat) (g : Seg) : (s.setSeg i g).comp = s.comp := rfl
@[simp] theorem State.setSeg_store (s : State) (i : Nat) (g : Seg) : (s.setSeg i g).store = s.store := rfl
@[simp] theorem State.setSeg_portA (s : State) (i : Nat) (g : Seg) : (s.setSeg i g).portA = s.portA := rfl
@[simp] theorem State.setSeg_portB (s : State) (i : Nat) (g : Seg) : (s.setSeg i g).portB = s.portB := rfl
@[simp] theorem State.setSeg_memLast (s : State) (i : Nat) (g : Seg) : (s.setSeg i g).memLast = s.memLast := rfl
@[simp] theorem State.setSeg_fbLast (s : State) (i : Nat) (g : Seg) : (s.setSeg i g).fbLast = s.fbLast := rfl

@[simp] theorem State.freeSeg_pending (s : State) (i : Nat) : (s.freeSeg i).pending = s.pending := rfl
@[simp] theorem State.freeSeg_straps (s : State) (i : Nat) : (s.freeSeg i).straps = s.straps := rfl
@[simp] theorem State.freeSeg_baseTick (s : State) (i : Nat) : (s.freeSeg i).baseTick = s.baseTick := rfl
@[simp] theorem State.freeSeg_setup (s : State) (i : Nat) : (s.freeSeg i).setup = s.setup := rfl
@[simp] theorem State.freeSeg_panel (s : State) (i : Nat) : (s.freeSeg i).panel = s.panel := rfl
@[simp] theorem State.freeSeg_fe (s : State) (i : Nat) : (s.freeSeg i).fe = s.fe := rfl
@[simp] theorem State.freeSeg_trig (s : State) (i : Nat) : (s.freeSeg i).trig = s.trig := rfl
@[simp] theorem State.freeSeg_comp (s : State) (i : Nat) : (s.freeSeg i).comp = s.comp := rfl
@[simp] theorem State.freeSeg_store (s : State) (i : Nat) : (s.freeSeg i).store = s.store := rfl
@[simp] theorem State.freeSeg_portA (s : State) (i : Nat) : (s.freeSeg i).portA = s.portA := rfl
@[simp] theorem State.freeSeg_portB (s : State) (i : Nat) : (s.freeSeg i).portB = s.portB := rfl
@[simp] theorem State.freeSeg_memLast (s : State) (i : Nat) : (s.freeSeg i).memLast = s.memLast := rfl
@[simp] theorem State.freeSeg_fbLast (s : State) (i : Nat) : (s.freeSeg i).fbLast = s.fbLast := rfl

@[simp] theorem State.setTone_pending (s : State) (t : Tone) : (s.setTone t).pending = s.pending := rfl
@[simp] theorem State.setTone_straps (s : State) (t : Tone) : (s.setTone t).straps = s.straps := rfl
@[simp] theorem State.setTone_baseTick (s : State) (t : Tone) : (s.setTone t).baseTick = s.baseTick := rfl
@[simp] theorem State.setTone_setup (s : State) (t : Tone) : (s.setTone t).setup = s.setup := rfl
@[simp] theorem State.setTone_fe (s : State) (t : Tone) : (s.setTone t).fe = s.fe := rfl
@[simp] theorem State.setTone_trig (s : State) (t : Tone) : (s.setTone t).trig = s.trig := rfl
@[simp] theorem State.setTone_acq (s : State) (t : Tone) : (s.setTone t).acq = s.acq := rfl
@[simp] theorem State.setTone_rend (s : State) (t : Tone) : (s.setTone t).rend = s.rend := rfl
@[simp] theorem State.setTone_comp (s : State) (t : Tone) : (s.setTone t).comp = s.comp := rfl
@[simp] theorem State.setTone_store (s : State) (t : Tone) : (s.setTone t).store = s.store := rfl
@[simp] theorem State.setTone_portA (s : State) (t : Tone) : (s.setTone t).portA = s.portA := rfl
@[simp] theorem State.setTone_portB (s : State) (t : Tone) : (s.setTone t).portB = s.portB := rfl
@[simp] theorem State.setTone_memLast (s : State) (t : Tone) : (s.setTone t).memLast = s.memLast := rfl
@[simp] theorem State.setTone_fbLast (s : State) (t : Tone) : (s.setTone t).fbLast = s.fbLast := rfl

@[simp] theorem State.undue_pending (s : State) (e : PanelEvent) : (s.undue e).pending = s.pending := rfl
@[simp] theorem State.undue_straps (s : State) (e : PanelEvent) : (s.undue e).straps = s.straps := rfl
@[simp] theorem State.undue_baseTick (s : State) (e : PanelEvent) : (s.undue e).baseTick = s.baseTick := rfl
@[simp] theorem State.undue_setup (s : State) (e : PanelEvent) : (s.undue e).setup = s.setup := rfl
@[simp] theorem State.undue_fe (s : State) (e : PanelEvent) : (s.undue e).fe = s.fe := rfl
@[simp] theorem State.undue_trig (s : State) (e : PanelEvent) : (s.undue e).trig = s.trig := rfl
@[simp] theorem State.undue_acq (s : State) (e : PanelEvent) : (s.undue e).acq = s.acq := rfl
@[simp] theorem State.undue_rend (s : State) (e : PanelEvent) : (s.undue e).rend = s.rend := rfl
@[simp] theorem State.undue_comp (s : State) (e : PanelEvent) : (s.undue e).comp = s.comp := rfl
@[simp] theorem State.undue_store (s : State) (e : PanelEvent) : (s.undue e).store = s.store := rfl
@[simp] theorem State.undue_portA (s : State) (e : PanelEvent) : (s.undue e).portA = s.portA := rfl
@[simp] theorem State.undue_portB (s : State) (e : PanelEvent) : (s.undue e).portB = s.portB := rfl
@[simp] theorem State.undue_memLast (s : State) (e : PanelEvent) : (s.undue e).memLast = s.memLast := rfl
@[simp] theorem State.undue_fbLast (s : State) (e : PanelEvent) : (s.undue e).fbLast = s.fbLast := rfl

@[simp] theorem State.scan_pending (s : State) (k : BitVec 64) (a b : BitVec 8) : (s.scan k a b).pending = s.pending := rfl
@[simp] theorem State.scan_straps (s : State) (k : BitVec 64) (a b : BitVec 8) : (s.scan k a b).straps = s.straps := rfl
@[simp] theorem State.scan_baseTick (s : State) (k : BitVec 64) (a b : BitVec 8) : (s.scan k a b).baseTick = s.baseTick := rfl
@[simp] theorem State.scan_setup (s : State) (k : BitVec 64) (a b : BitVec 8) : (s.scan k a b).setup = s.setup := rfl
@[simp] theorem State.scan_fe (s : State) (k : BitVec 64) (a b : BitVec 8) : (s.scan k a b).fe = s.fe := rfl
@[simp] theorem State.scan_trig (s : State) (k : BitVec 64) (a b : BitVec 8) : (s.scan k a b).trig = s.trig := rfl
@[simp] theorem State.scan_acq (s : State) (k : BitVec 64) (a b : BitVec 8) : (s.scan k a b).acq = s.acq := rfl
@[simp] theorem State.scan_rend (s : State) (k : BitVec 64) (a b : BitVec 8) : (s.scan k a b).rend = s.rend := rfl
@[simp] theorem State.scan_comp (s : State) (k : BitVec 64) (a b : BitVec 8) : (s.scan k a b).comp = s.comp := rfl
@[simp] theorem State.scan_store (s : State) (k : BitVec 64) (a b : BitVec 8) : (s.scan k a b).store = s.store := rfl
@[simp] theorem State.scan_portA (s : State) (k : BitVec 64) (a b : BitVec 8) : (s.scan k a b).portA = s.portA := rfl
@[simp] theorem State.scan_portB (s : State) (k : BitVec 64) (a b : BitVec 8) : (s.scan k a b).portB = s.portB := rfl
@[simp] theorem State.scan_memLast (s : State) (k : BitVec 64) (a b : BitVec 8) : (s.scan k a b).memLast = s.memLast := rfl
@[simp] theorem State.scan_fbLast (s : State) (k : BitVec 64) (a b : BitVec 8) : (s.scan k a b).fbLast = s.fbLast := rfl

@[simp] theorem State.countDetent_pending (s : State) (e : Nat) (cw : Bool) : (s.countDetent e cw).pending = s.pending := rfl
@[simp] theorem State.countDetent_straps (s : State) (e : Nat) (cw : Bool) : (s.countDetent e cw).straps = s.straps := rfl
@[simp] theorem State.countDetent_baseTick (s : State) (e : Nat) (cw : Bool) : (s.countDetent e cw).baseTick = s.baseTick := rfl
@[simp] theorem State.countDetent_setup (s : State) (e : Nat) (cw : Bool) : (s.countDetent e cw).setup = s.setup := rfl
@[simp] theorem State.countDetent_fe (s : State) (e : Nat) (cw : Bool) : (s.countDetent e cw).fe = s.fe := rfl
@[simp] theorem State.countDetent_trig (s : State) (e : Nat) (cw : Bool) : (s.countDetent e cw).trig = s.trig := rfl
@[simp] theorem State.countDetent_acq (s : State) (e : Nat) (cw : Bool) : (s.countDetent e cw).acq = s.acq := rfl
@[simp] theorem State.countDetent_rend (s : State) (e : Nat) (cw : Bool) : (s.countDetent e cw).rend = s.rend := rfl
@[simp] theorem State.countDetent_comp (s : State) (e : Nat) (cw : Bool) : (s.countDetent e cw).comp = s.comp := rfl
@[simp] theorem State.countDetent_store (s : State) (e : Nat) (cw : Bool) : (s.countDetent e cw).store = s.store := rfl
@[simp] theorem State.countDetent_portA (s : State) (e : Nat) (cw : Bool) : (s.countDetent e cw).portA = s.portA := rfl
@[simp] theorem State.countDetent_portB (s : State) (e : Nat) (cw : Bool) : (s.countDetent e cw).portB = s.portB := rfl
@[simp] theorem State.countDetent_memLast (s : State) (e : Nat) (cw : Bool) : (s.countDetent e cw).memLast = s.memLast := rfl
@[simp] theorem State.countDetent_fbLast (s : State) (e : Nat) (cw : Bool) : (s.countDetent e cw).fbLast = s.fbLast := rfl

@[simp] theorem State.consumeDecay_pending (s : State) : (s.consumeDecay).pending = s.pending := rfl
@[simp] theorem State.consumeDecay_straps (s : State) : (s.consumeDecay).straps = s.straps := rfl
@[simp] theorem State.consumeDecay_baseTick (s : State) : (s.consumeDecay).baseTick = s.baseTick := rfl
@[simp] theorem State.consumeDecay_setup (s : State) : (s.consumeDecay).setup = s.setup := rfl
@[simp] theorem State.consumeDecay_panel (s : State) : (s.consumeDecay).panel = s.panel := rfl
@[simp] theorem State.consumeDecay_fe (s : State) : (s.consumeDecay).fe = s.fe := rfl
@[simp] theorem State.consumeDecay_trig (s : State) : (s.consumeDecay).trig = s.trig := rfl
@[simp] theorem State.consumeDecay_acq (s : State) : (s.consumeDecay).acq = s.acq := rfl
@[simp] theorem State.consumeDecay_comp (s : State) : (s.consumeDecay).comp = s.comp := rfl
@[simp] theorem State.consumeDecay_store (s : State) : (s.consumeDecay).store = s.store := rfl
@[simp] theorem State.consumeDecay_portA (s : State) : (s.consumeDecay).portA = s.portA := rfl
@[simp] theorem State.consumeDecay_portB (s : State) : (s.consumeDecay).portB = s.portB := rfl
@[simp] theorem State.consumeDecay_memLast (s : State) : (s.consumeDecay).memLast = s.memLast := rfl
@[simp] theorem State.consumeDecay_fbLast (s : State) : (s.consumeDecay).fbLast = s.fbLast := rfl

@[simp] theorem State.clearChanged_pending (s : State) : (s.clearChanged).pending = s.pending := rfl
@[simp] theorem State.clearChanged_straps (s : State) : (s.clearChanged).straps = s.straps := rfl
@[simp] theorem State.clearChanged_baseTick (s : State) : (s.clearChanged).baseTick = s.baseTick := rfl
@[simp] theorem State.clearChanged_panel (s : State) : (s.clearChanged).panel = s.panel := rfl
@[simp] theorem State.clearChanged_fe (s : State) : (s.clearChanged).fe = s.fe := rfl
@[simp] theorem State.clearChanged_trig (s : State) : (s.clearChanged).trig = s.trig := rfl
@[simp] theorem State.clearChanged_acq (s : State) : (s.clearChanged).acq = s.acq := rfl
@[simp] theorem State.clearChanged_rend (s : State) : (s.clearChanged).rend = s.rend := rfl
@[simp] theorem State.clearChanged_comp (s : State) : (s.clearChanged).comp = s.comp := rfl
@[simp] theorem State.clearChanged_store (s : State) : (s.clearChanged).store = s.store := rfl
@[simp] theorem State.clearChanged_portA (s : State) : (s.clearChanged).portA = s.portA := rfl
@[simp] theorem State.clearChanged_portB (s : State) : (s.clearChanged).portB = s.portB := rfl
@[simp] theorem State.clearChanged_memLast (s : State) : (s.clearChanged).memLast = s.memLast := rfl
@[simp] theorem State.clearChanged_fbLast (s : State) : (s.clearChanged).fbLast = s.fbLast := rfl

@[simp] theorem State.tick_pending (s : State) : (s.tick).pending = s.pending := rfl
@[simp] theorem State.tick_straps (s : State) : (s.tick).straps = s.straps := rfl
@[simp] theorem State.tick_setup (s : State) : (s.tick).setup = s.setup := rfl
@[simp] theorem State.tick_rend (s : State) : (s.tick).rend = s.rend := rfl
@[simp] theorem State.tick_portA (s : State) : (s.tick).portA = s.portA := rfl
@[simp] theorem State.tick_portB (s : State) : (s.tick).portB = s.portB := rfl
@[simp] theorem State.tick_memLast (s : State) : (s.tick).memLast = s.memLast := rfl
@[simp] theorem State.tick_fbLast (s : State) : (s.tick).fbLast = s.fbLast := rfl

/-! ## The ports -/

@[simp] theorem State.port_updPort (s : State) (p : Port) (f : PortState → PortState) :
    (s.updPort p f).port p = f (s.port p) := by cases p <;> rfl

@[simp] theorem State.port_updPort_other (s : State) (p : Port) (f : PortState → PortState) :
    (s.updPort p f).port (otherPort p) = s.port (otherPort p) := by cases p <;> rfl

@[simp] theorem State.port_post (s : State) (n : Notice) (p : Port) :
    (s.post n).port p = (s.port p).takeNotice n := by cases p <;> rfl

@[simp] theorem State.port_setSeg (s : State) (i : Nat) (g : Seg) (q : Port) : (s.setSeg i g).port q = s.port q := by cases q <;> rfl
@[simp] theorem State.port_freeSeg (s : State) (i : Nat) (q : Port) : (s.freeSeg i).port q = s.port q := by cases q <;> rfl
@[simp] theorem State.port_setTone (s : State) (t : Tone) (q : Port) : (s.setTone t).port q = s.port q := by cases q <;> rfl
@[simp] theorem State.port_undue (s : State) (e : PanelEvent) (q : Port) : (s.undue e).port q = s.port q := by cases q <;> rfl
@[simp] theorem State.port_scan (s : State) (k : BitVec 64) (a b : BitVec 8) (q : Port) : (s.scan k a b).port q = s.port q := by cases q <;> rfl
@[simp] theorem State.port_countDetent (s : State) (e : Nat) (cw : Bool) (q : Port) : (s.countDetent e cw).port q = s.port q := by cases q <;> rfl
@[simp] theorem State.port_consumeDecay (s : State) (q : Port) : (s.consumeDecay).port q = s.port q := by cases q <;> rfl
@[simp] theorem State.port_clearChanged (s : State) (q : Port) : (s.clearChanged).port q = s.port q := by cases q <;> rfl
@[simp] theorem State.port_tick (s : State) (q : Port) : (s.tick).port q = s.port q := by cases q <;> rfl

/-! ## Readings -/

@[simp] theorem State.fieldVal_eq (s : State) (id : Nat) : s.fieldVal id = s.setup.val id := rfl

@[simp] theorem State.seg_eq (s : State) (i : Nat) : s.seg i = s.acq.seg i := rfl

@[simp] theorem State.beginScan_pending (s : State) : s.beginScan.pending = s.pending := rfl
@[simp] theorem State.beginScan_straps (s : State) : s.beginScan.straps = s.straps := rfl
@[simp] theorem State.beginScan_baseTick (s : State) : s.beginScan.baseTick = s.baseTick := rfl
@[simp] theorem State.beginScan_setup (s : State) : s.beginScan.setup = s.setup := rfl
@[simp] theorem State.beginScan_panel (s : State) : s.beginScan.panel = s.panel := rfl
@[simp] theorem State.beginScan_fe (s : State) : s.beginScan.fe = s.fe := rfl
@[simp] theorem State.beginScan_trig (s : State) : s.beginScan.trig = s.trig := rfl
@[simp] theorem State.beginScan_acq (s : State) : s.beginScan.acq = s.acq := rfl
@[simp] theorem State.beginScan_rend (s : State) : s.beginScan.rend = s.rend := rfl
@[simp] theorem State.beginScan_comp (s : State) : s.beginScan.comp = s.comp := rfl
@[simp] theorem State.beginScan_portA (s : State) : s.beginScan.portA = s.portA := rfl
@[simp] theorem State.beginScan_portB (s : State) : s.beginScan.portB = s.portB := rfl
@[simp] theorem State.beginScan_memLast (s : State) : s.beginScan.memLast = s.memLast := rfl
@[simp] theorem State.beginScan_fbLast (s : State) : s.beginScan.fbLast = s.fbLast := rfl
@[simp] theorem State.beginScan_port (s : State) (p : Port) : s.beginScan.port p = s.port p := by cases p <;> rfl

/-- What the beginning of the scan does: the record where it was not formed, and nothing else (R147). -/
theorem State.beginScan_begun (s : State) : ScanBegun s s.beginScan := by
  unfold ScanBegun State.beginScan Store.beginScan
  split <;> simp_all

end Sys2Proof.Machine
end

