-- ==== Sys2Proof/Laws/Frame.lean ====
section
/-!
SUPPORT. What each shared operation of the acquisition controller, the renderer, the trigger unit and the front end
leaves as it was: one lemma an operation, over the relation `Inner`.
-/

namespace Sys2Proof.Machine

/-! ## The relations -/

theorem Noticed.refl (ps : PortState) : Noticed ps ps := ⟨[], rfl⟩

theorem Noticed.trans {a b c : PortState} (h : Noticed a b) (k : Noticed b c) : Noticed a c := by
  obtain ⟨ns, rfl⟩ := h
  obtain ⟨ms, rfl⟩ := k
  exact ⟨ns ++ ms, by simp⟩

theorem Noticed.take (ps : PortState) (n : Notice) : Noticed ps (ps.takeNotice n) := ⟨[n], rfl⟩

theorem Inner.refl (s : State) : Inner s s :=
  ⟨rfl, rfl, rfl, rfl, rfl, rfl, rfl, rfl, rfl, rfl, rfl, rfl, .refl _, .refl _⟩

theorem Inner.trans {s t u : State} (h : Inner s t) (k : Inner t u) : Inner s u :=
  ⟨k.pending.trans h.pending, k.straps.trans h.straps, k.baseTick.trans h.baseTick, k.recs.trans h.recs,
    k.gen.trans h.gen, k.holder.trans h.holder, k.localDisabled.trans h.localDisabled, k.panel.trans h.panel,
    k.comp.trans h.comp, k.store.trans h.store, k.memLast.trans h.memLast, k.fbLast.trans h.fbLast,
    h.portA.trans k.portA, h.portB.trans k.portB⟩

/-- A record update of the inner blocks alone. -/
theorem Inner.update (s : State) (c : List Nat) (f : FrontEnd) (t : Trig) (a : Acq) (r : Renderer) :
    Inner s { s with setup := { s.setup with changed := c }, fe := f, trig := t, acq := a, rend := r } :=
  ⟨rfl, rfl, rfl, rfl, rfl, rfl, rfl, rfl, rfl, rfl, rfl, rfl, .refl _, .refl _⟩

theorem Inner.post (s : State) (n : Notice) : Inner s (s.post n) :=
  ⟨rfl, rfl, rfl, rfl, rfl, rfl, rfl, rfl, rfl, rfl, rfl, rfl, .take _ _, .take _ _⟩

theorem Inner.ite {s t u : State} {c : Prop} [Decidable c] (h : Inner s t) (k : Inner s u) :
    Inner s (if c then t else u) := by split <;> assumption

theorem Inner.foldl {α : Type} {f : State → α → State} (h : ∀ s a, Inner s (f s a)) (l : List α) (s : State) :
    Inner s (l.foldl f s) := by
  induction l generalizing s with
  | nil => exact .refl s
  | cons a l ih => exact (h s a).trans (ih _)

/-! ## Segments and renderer -/

theorem inner_setSeg (s : State) (i : Nat) (g : Seg) : Inner s (s.setSeg i g) := .update s _ _ _ _ _

theorem inner_freeSeg (s : State) (i : Nat) : Inner s (s.freeSeg i) := .update s _ _ _ _ _

theorem inner_freeIfUnkept (s : State) (i : Nat) : Inner s (s.freeIfUnkept i) :=
  .ite (inner_freeSeg s i) (.refl s)

theorem inner_freeUnkept (s : State) (is : List Nat) : Inner s (s.freeUnkept is) := .foldl inner_freeIfUnkept is s

theorem inner_freeUnheld (s : State) (is : List Nat) : Inner s (s.freeUnheld is) :=
  .foldl (fun s i => .ite (inner_freeSeg s i) (.refl s)) is s

theorem inner_abandonFilling (s : State) : Inner s s.abandonFilling := by
  unfold State.abandonFilling
  split
  · exact (inner_freeSeg s _).trans (.update _ _ _ _ _ _)
  · exact .update _ _ _ _ _ _

theorem inner_makeCurrent (s : State) (i : Nat) : Inner s (s.makeCurrent i) := by
  unfold State.makeCurrent
  split
  · exact .ite (.refl s) (((inner_setSeg _ _ _).trans (inner_setSeg _ _ _)).trans (inner_freeIfUnkept _ _))
  · exact inner_setSeg _ _ _

theorem inner_consumeDecay (s : State) : Inner s s.consumeDecay := .update s _ _ _ _ _

theorem inner_clearPending (s : State) (i : Nat) : Inner s (s.clearPending i) :=
  (inner_setSeg _ _ _).trans (inner_freeIfUnkept _ _)

theorem inner_makeRoom (s : State) : Inner s s.makeRoom := by
  unfold State.makeRoom
  split
  · exact .refl s
  · split
    · exact (Inner.update s _ _ _ _ _).trans (inner_clearPending _ _)
    · exact .refl s

theorem inner_enqueue (s : State) (i : Nat) : Inner s (s.enqueue i) :=
  (Inner.update s _ _ _ _ _).trans (inner_setSeg _ _ _)

theorem inner_handOff (s : State) (i : Nat) : Inner s (s.handOff i) :=
  .ite (.refl s) ((inner_makeRoom s).trans (inner_enqueue _ _))

theorem inner_abandonRender (s : State) : Inner s s.abandonRender := by
  unfold State.abandonRender
  split
  · exact (Inner.update s _ _ _ _ _).trans (inner_clearPending _ _)
  · exact .refl s

theorem inner_clearRasters (s : State) : Inner s s.clearRasters :=
  (Inner.update s _ _ _ _ _).trans (inner_abandonRender _)

theorem inner_purge (s : State) : Inner s s.purge :=
  ((Inner.update s _ _ _ _ _).trans (.foldl inner_clearPending _ _)).trans (inner_abandonRender _)

theorem inner_takeRender (s : State) (n : Nat) : Inner s (s.takeRender n) := by
  induction n generalizing s with
  | zero => exact .refl s
  | succ n ih =>
    unfold State.takeRender
    split
    · exact .refl s
    · exact .ite (((Inner.update s _ _ _ _ _).trans (inner_clearPending _ _)).trans (ih _)) (.update s _ _ _ _ _)

theorem inner_resume (s : State) : Inner s s.resume := by
  unfold State.resume
  split
  · exact .refl s
  · exact (inner_consumeDecay s).trans (inner_takeRender _ _)

theorem inner_columnStep (s : State) (r : Render) (m : ChanMap) : Inner s (s.columnStep r m) :=
  .ite (.update s _ _ _ _ _)
    (((Inner.update s _ _ _ _ _).trans (inner_abandonRender _)).trans (inner_resume _))

/-! ## Front end -/

theorem inner_feArbitrate (s : State) : Inner s s.feArbitrate := by
  unfold State.feArbitrate
  split
  · exact .update s _ _ _ _ _
  · exact .refl s

theorem inner_feConfirm (s : State) (n : Nat) : Inner s (s.feConfirm n) := .update s _ _ _ _ _

theorem inner_flagFault (s : State) (n : Nat) : Inner s (s.flagFault n) := by
  unfold State.flagFault
  split
  · exact .ite (inner_setSeg _ _ _) (.refl s)
  · exact .refl s

theorem inner_feMismatch (s : State) (n : Nat) : Inner s (s.feMismatch n) :=
  .ite (.update s _ _ _ _ _) (((Inner.update s _ _ _ _ _).trans (inner_flagFault _ _)).trans (.post _ _))

/-! ## Triggers, filling and arming -/

theorem inner_takeTrigger (s : State) (auto : Bool) : Inner s (s.takeTrigger auto) := by
  unfold State.takeTrigger
  split
  · exact (Inner.update s _ _ _ _ _).trans (inner_setSeg _ _ _)
  · exact .update s _ _ _ _ _

theorem inner_passToReady (s : State) : Inner s s.passToReady :=
  .ite ((Inner.update s _ _ _ _ _).trans (inner_takeTrigger _ _)) (.update s _ _ _ _ _)

theorem inner_enterFilling (s : State) (i e : Nat) (snaps : List Snap) : Inner s (s.enterFilling i e snaps) :=
  .ite ((Inner.update s _ _ _ _ _).trans (inner_passToReady _)) (.update s _ _ _ _ _)

theorem inner_reuseCurrent (s : State) : Inner s s.reuseCurrent := by
  unfold State.reuseCurrent
  split
  · exact .refl s
  · split
    · exact .ite (inner_freeSeg _ _) (.refl s)
    · exact .refl s

theorem inner_slotChoice (s : State) : Inner s s.slotChoice := by
  unfold State.slotChoice
  dsimp only
  split
  · exact (inner_reuseCurrent s).trans (inner_enterFilling _ _ _ _)
  · exact (inner_reuseCurrent s).trans (.update _ _ _ _ _ _)

theorem inner_arm (s : State) : Inner s s.arm := .ite (inner_slotChoice s) (.update s _ _ _ _ _)

theorem inner_retryWait (s : State) : Inner s s.retryWait := .ite (inner_arm s) (.refl s)

theorem inner_tellSettled (s : State) : Inner s s.tellSettled := .ite (inner_arm s) (.refl s)

theorem inner_finishAct (s : State) : Inner s s.finishAct := (inner_resume s).trans (inner_retryWait _)

theorem inner_feFinish (s : State) : Inner s s.feFinish := (inner_feArbitrate s).trans (inner_tellSettled _)

/-! ## Run modes and completion -/

theorem inner_setMode (s : State) (m : RunMode) : Inner s (s.setMode m) :=
  (Inner.update s _ _ _ _ _).trans (.post _ _)

theorem inner_enterStop (s : State) : Inner s s.enterStop :=
  ((inner_abandonFilling s).trans (.update _ _ _ _ _ _)).trans (inner_setMode _ _)

theorem inner_clearChanged (s : State) : Inner s s.clearChanged := .update s _ _ _ _ _

theorem inner_emptySequence (s : State) : Inner s s.emptySequence :=
  (Inner.update s _ _ _ _ _).trans (inner_freeUnkept _ _)

theorem inner_startSequence (s : State) : Inner s s.startSequence :=
  (inner_freeUnheld s _).trans (.update _ _ _ _ _ _)

theorem inner_toActive (s : State) (m : RunMode) : Inner s (s.toActive m) :=
  .ite
    (((((inner_clearChanged s).trans (inner_setMode _ _)).trans (inner_emptySequence _)).trans (inner_resume _)).trans
      (inner_arm _))
    (((inner_setMode s _).trans (inner_emptySequence _)).trans (inner_finishAct _))

theorem inner_toSequence (s : State) : Inner s s.toSequence :=
  (((((Inner.ite (c := s.acq.mode = .stop) (Inner.refl s) (inner_enterStop s)).trans (inner_clearChanged _)).trans
    (inner_setMode _ _)).trans (inner_startSequence _)).trans (inner_resume _)).trans (inner_arm _)

theorem inner_runControl (s : State) (m : RunMode) : Inner s (s.runControl m) := by
  unfold State.runControl
  split
  · exact .refl s
  · cases m
    · exact inner_enterStop s
    · exact inner_toActive s _
    · exact inner_toActive s _
    · exact inner_toSequence s

theorem inner_force (s : State) : Inner s s.force := by
  unfold State.force
  split
  · exact .update s _ _ _ _ _
  · exact inner_takeTrigger s _
  · exact .refl s

theorem inner_completeSeg (s : State) (i : Nat) : Inner s (s.completeSeg i) :=
  (Inner.update s _ _ _ _ _).trans (inner_makeCurrent _ _)

theorem inner_endRun (s : State) : Inner s s.endRun := (Inner.update s _ _ _ _ _).trans (inner_setMode _ _)

theorem inner_continueSequence (s : State) (i : Nat) : Inner s (s.continueSequence i) :=
  .ite
    (((((Inner.update s _ _ _ _ _).trans (inner_handOff _ _)).trans (inner_resume _)).trans (.post _ _)).trans
      (inner_endRun _))
    ((Inner.update s _ _ _ _ _).trans (inner_arm _))

theorem inner_handCompleted (s : State) (i : Nat) : Inner s (s.handCompleted i) :=
  .ite (.refl s) ((inner_handOff s i).trans (inner_resume _))

theorem inner_announce (s : State) (i : Nat) : Inner s (s.announce i) :=
  (((inner_completeSeg s i).trans (inner_handCompleted _ i)).trans (.update _ _ _ _ _ _)).trans (.post _ _)

theorem inner_complete (s : State) (i : Nat) : Inner s (s.complete i) := by
  unfold State.complete
  split
  · exact (inner_announce s i).trans ((inner_endRun _).trans (inner_finishAct _))
  · exact (inner_announce s i).trans ((inner_continueSequence _ _).trans (inner_finishAct _))
  · exact (inner_announce s i).trans ((inner_arm _).trans (inner_finishAct _))

theorem inner_restart (s : State) : Inner s s.restart := by
  unfold State.restart
  split
  · exact ((((((inner_abandonFilling s).trans (inner_freeUnheld _ _)).trans (.update _ _ _ _ _ _)).trans
      (inner_purge _)).trans (inner_clearRasters _))).trans (.update _ _ _ _ _ _)
  · exact (((inner_abandonFilling s).trans (inner_purge _)).trans (inner_clearRasters _)).trans (.update _ _ _ _ _ _)

/-! ## Samples -/

theorem inner_writeSample (s : State) (i pos : Nat) (cs : List Byte) : Inner s (s.writeSample i pos cs) :=
  .update s _ _ _ _ _

theorem inner_postSample (s : State) (i : Nat) (cs : List Byte) : Inner s (s.postSample i cs) := by
  have h : Inner s (if s.acq.postCount = 0 then s.setSeg i { s.seg i with time := s.baseTick } else s) :=
    .ite (inner_setSeg _ _ _) (.refl s)
  unfold State.postSample
  refine .ite (h.trans (inner_complete _ _)) (.ite ?_ ?_)
  · exact ((h.trans (inner_writeSample _ _ _ _)).trans (.update _ _ _ _ _ _)).trans (inner_complete _ _)
  · exact (h.trans (inner_writeSample _ _ _ _)).trans (.update _ _ _ _ _ _)

theorem inner_overwriteOldest (s : State) (i : Nat) (cs : List Byte) : Inner s (s.overwriteOldest i cs) :=
  .ite (.refl s) ((inner_writeSample _ _ _ _).trans (inner_setSeg _ _ _))

theorem inner_pretrigSample (s : State) (i : Nat) (cs : List Byte) : Inner s (s.pretrigSample i cs) :=
  .ite (((inner_writeSample s _ _ _).trans (.update _ _ _ _ _ _)).trans (inner_passToReady _))
    ((inner_writeSample s _ _ _).trans (.update _ _ _ _ _ _))

theorem inner_tracked (s : State) (i : Nat) (cs : List Byte) (ext : Bool) : Inner s (s.tracked i cs ext) :=
  .update s _ _ _ _ _

theorem inner_takeSample (s : State) (i : Nat) (cs : List Byte) (ext : Bool) : Inner s (s.takeSample i cs ext) := by
  unfold State.takeSample
  split
  · exact (inner_tracked s _ _ _).trans (inner_pretrigSample _ _ _)
  · exact .ite (((inner_tracked s _ _ _).trans (inner_takeTrigger _ _)).trans (inner_postSample _ _ _))
      ((inner_tracked s _ _ _).trans (inner_overwriteOldest _ _ _))
  · exact (inner_tracked s _ _ _).trans (inner_postSample _ _ _)
  · exact .refl s

theorem inner_keptSample (s : State) (cs : List Byte) (ext : Bool) : Inner s (s.keptSample cs ext) := by
  unfold State.keptSample
  split
  · exact inner_takeSample s _ _ _
  · exact .refl s

/-! ## Disposition -/

theorem inner_freeAboveK (s : State) (ids : List Nat) : Inner s (s.freeAboveK ids) :=
  .ite (inner_freeUnheld _ _) (.refl s)

theorem inner_requestUpdates (s : State) (ids : List Nat) : Inner s (s.requestUpdates ids) :=
  .ite (.refl s) ((Inner.update s _ _ _ _ _).trans (inner_feArbitrate _))

theorem inner_disposeAcq (s : State) (ids : List Nat) : Inner s (s.disposeAcq ids) :=
  .ite (.ite (inner_restart s) (.update s _ _ _ _ _)) (.refl s)

theorem inner_requeueCurrent (s : State) : Inner s s.requeueCurrent := by
  unfold State.requeueCurrent
  split
  · exact inner_handOff s _
  · exact .refl s

theorem inner_disposeView (s : State) (ids : List Nat) : Inner s (s.disposeView ids) :=
  .ite (.ite (inner_clearRasters s) ((inner_clearRasters s).trans (inner_requeueCurrent _))) (.refl s)

theorem inner_disposeTrigMode (s : State) (ids : List Nat) : Inner s (s.disposeTrigMode ids) :=
  .ite (.update s _ _ _ _ _) (.refl s)

theorem inner_disposeAux (s : State) (ids : List Nat) : Inner s (s.disposeAux ids) :=
  .ite (.update s _ _ _ _ _) (.refl s)

theorem inner_disposeEnd (s : State) (ids : List Nat) : Inner s (s.disposeEnd ids) :=
  .ite ((inner_resume s).trans (inner_arm _)) (.ite (inner_finishAct s) (.refl s))

/-- The disposition of a change moves the inner blocks alone (R12). -/
theorem inner_dispose (s : State) (ids : List Nat) : Inner s (s.dispose ids) :=
  ((((((inner_freeAboveK s ids).trans (inner_requestUpdates _ _)).trans (inner_disposeAcq _ _)).trans
    (inner_disposeView _ _)).trans (inner_disposeTrigMode _ _)).trans (inner_disposeAux _ _)).trans
    (inner_disposeEnd _ _)

end Sys2Proof.Machine
end

