-- ==== Sys2Proof/Laws/Requests.lean ====
section
/-!
SUPPORT. What offering, refusing and answering a request do, and what a memory turn gives a port: one lemma for each
shared operation of the ports; and the order in which due events are taken.
-/

namespace Sys2Proof.Machine

/-- The owning block takes the request that is offered. -/
theorem onRequest_offers {s : State} {p : Port} {kind : BitVec 8} {ws : List Word} (h : Offers s p kind ws)
    (f : List Word → State) : onRequest p kind s f = .next (f ws) := by
  simp [onRequest, State.offered, h.1, h.2]

/-- Where no such request is offered, the command of a request changes nothing (log 4). -/
theorem onRequest_next (p : Port) (kind : BitVec 8) (s : State) (f : List Word → State) :
    onRequest p kind s f = .next s ∨ ∃ ws, Offers s p kind ws ∧ onRequest p kind s f = .next (f ws) := by
  cases h : s.offered p kind with
  | none => exact .inl (by simp [onRequest, h])
  | some ws =>
    refine .inr ⟨ws, ?_, by simp [onRequest, h]⟩
    unfold State.offered at h
    cases hs : (s.port p).staged with
    | none => simp [hs] at h
    | some r =>
      obtain ⟨k, v, d⟩ := r
      simp only [hs] at h
      split at h
      · rename_i hc
        obtain ⟨h1, rfl, rfl⟩ := hc
        simp only [Option.some.injEq] at h
        exact ⟨h1, h ▸ hs⟩
      · simp at h

theorem State.port_ne {s : State} {p : Port} (f : PortState → PortState) :
    (s.updPort p f).port (otherPort p) = s.port (otherPort p) := by cases p <;> rfl

theorem State.port_eq {s : State} {p : Port} (f : PortState → PortState) :
    (s.updPort p f).port p = f (s.port p) := by cases p <;> rfl

theorem restSame_updPort (s : State) (p : Port) (f : PortState → PortState) : RestSame s (s.updPort p f) := rfl

theorem answered_respondLost (s : State) (p : Port) (lost : Bool) (code : Code) (ws : List Word) :
    Answered (s.respondLost p lost code ws) p lost code ws := by
  unfold Answered State.respondLost
  rw [State.port_eq]
  exact ⟨rfl, rfl⟩

theorem answered_respond (s : State) (p : Port) (code : Code) (ws : List Word) :
    Answered (s.respond p code ws) p (s.port p).lost code ws := answered_respondLost s p _ code ws

theorem portsKept_respond (s : State) (p : Port) (code : Code) (ws : List Word) :
    PortsKept s (s.respond p code ws) p :=
  ⟨State.port_ne _, by unfold State.respond State.respondLost; rw [State.port_eq]; exact ⟨rfl, rfl, rfl, rfl, rfl, rfl, rfl, rfl, rfl⟩⟩

theorem restSame_respond (s : State) (p : Port) (code : Code) (ws : List Word) : RestSame s (s.respond p code ws) := rfl

/-- A refusal, or a plain reading: all that a response does. -/
theorem onlyAnswered_respond (s : State) (p : Port) (code : Code) (ws : List Word) :
    OnlyAnswered s (s.respond p code ws) p code ws :=
  ⟨answered_respond s p code ws, portsKept_respond s p code ws, restSame_respond s p code ws⟩

/-- LOST as a response leaves it. -/
theorem lost_respond (s : State) (p : Port) (code : Code) (ws : List Word) :
    ((s.respond p code ws).port p).lost = (s.port p).lost := (portsKept_respond s p code ws).2.2.2.2.1

theorem answered_respondOut (s : State) (p : Port) (code : Code) (ws : List Word) (d : DataOut) :
    Answered (s.respondOut p code ws d) p (s.port p).lost code ws := by
  unfold Answered State.respondOut
  rw [State.port_eq]
  exact ⟨rfl, rfl⟩

theorem portsKept_respondOut (s : State) (p : Port) (code : Code) (ws : List Word) (d : DataOut) :
    PortsKept s (s.respondOut p code ws d) p :=
  ⟨State.port_ne _, by unfold State.respondOut; rw [State.port_eq]; exact ⟨rfl, rfl, rfl, rfl, rfl, rfl, rfl, rfl, rfl⟩⟩

/-- The lock stands against a port exactly when the other port holds it (R23). -/
theorem lockedAgainst_port (s : State) (p : Port) :
    s.lockedAgainst (.port p) = true ↔ s.setup.holder = some (otherPort p) := by
  unfold State.lockedAgainst
  cases h : s.setup.holder with
  | none => simp
  | some q => cases p <;> cases q <;> simp [otherPort]

/-! ## Memory turns and due events -/

/-- A port that is served: the words of its access have come in and its waiting read has been given the first of them;
nothing else moves (R165, R171, R172). -/
theorem port_servePort {s : State} {p : Port} {d : DataOut} (h : (s.port p).out = some d) :
    (s.servePort p).port p = { s.port p with
      waiting := false
      readWord := s.outWord d (s.port p).given
      crc := crcWord (s.port p).crc (s.outWord d (s.port p).given)
      word := (s.port p).word + 1
      fetched := min Config.accessWords (d.total - (s.port p).given) - 1 } := by
  unfold State.servePort
  simp only [h, State.port_updPort]
  rfl

theorem restSame_servePort (s : State) (p : Port) : RestSame s (s.servePort p) := by
  unfold State.servePort
  split
  · exact restSame_updPort s p _
  · rfl

theorem port_other_servePort (s : State) (p : Port) : (s.servePort p).port (otherPort p) = s.port (otherPort p) := by
  unfold State.servePort
  split
  · exact State.port_updPort_other s p _
  · rfl

/-- The due events are taken oldest first (log 22). -/
theorem takeDue_cons {s : State} {e : PanelEvent} {es : List PanelEvent} (h : s.panel.due = e :: es) :
    s.takeDue = es.foldl State.takeEvent (s.takeEvent e) := by simp [State.takeDue, h]

theorem takeDue_nil {s : State} (h : s.panel.due = []) : s.takeDue = s := by simp [State.takeDue, h]

end Sys2Proof.Machine
end

