-- ==== Sys2Proof/Laws/Change.lean ====
section
/-!
SUPPORT. What applying a change does: the values it leaves, the generation, and what it leaves as it was (R10, R11).
-/

namespace Sys2Proof.Machine

theorem presentIds_nodup (st : Straps) : (presentIds st).Nodup := List.nodup_range.filter _

theorem inner_postAll (s : State) (ns : List Notice) : Inner s (s.postAll ns) := .foldl Inner.post ns s

/-- The record an id names after a change. -/
theorem find_newRecs (recs : List FieldRec) (f : Nat → Int) (src : Source) (g : BitVec 32) (id : Nat) :
    ((newRecs recs f src g).find? fun r => r.id == id)
      = (recs.find? fun r => r.id == id).map fun r =>
        if f r.id ≠ r.value then { r with value := f r.id, src := src, gen := g } else r := by
  unfold newRecs
  induction recs with
  | nil => rfl
  | cons r recs ih =>
    simp only [List.map_cons, List.find?_cons]
    have : (if f r.id ≠ r.value then { r with value := f r.id, src := src, gen := g } else r).id = r.id := by
      split <;> rfl
    rw [this]
    cases r.id == id
    · exact ih
    · rfl

/-- The value of a field that has a record, after a change. -/
theorem val_newRecs {m : Setup} {id : Nat} (h : id ∈ m.recs.map (·.id)) (f : Nat → Int) (src : Source)
    (g h' : BitVec 32) : Setup.val { m with recs := newRecs m.recs f src g, gen := h' } id = f id := by
  unfold Setup.val
  rw [find_newRecs]
  obtain ⟨r, hr, rfl⟩ := List.mem_map.1 h
  cases hf : m.recs.find? (fun q => q.id == r.id) with
  | none => simpa using List.find?_eq_none.1 hf r hr
  | some q =>
    have hq : q.id = r.id := by simpa using List.find?_some hf
    simp only [Option.map_some, Option.getD_some]
    split
    · simp [hq]
    · rename_i hv; simp only [ne_eq, not_not] at hv; rw [← hv, hq]

/-- What applying values does where a field differs: records, generation, and the inner blocks after them. -/
theorem applyValues_inner (s : State) (src : Source) (f : Nat → Int) :
    (s.altered f = [] ∧ s.applyValues src f = s)
      ∨ (s.altered f ≠ [] ∧ Inner { s with setup := { s.setup with
            recs := newRecs s.setup.recs f src (nextGen s.setup.gen), gen := nextGen s.setup.gen } }
          (s.applyValues src f)) := by
  unfold State.applyValues
  split
  · rename_i h; exact .inl ⟨h, rfl⟩
  · rename_i h; exact .inr ⟨h, (inner_postAll _ _).trans (inner_dispose _ _)⟩

theorem altered_nil_iff (s : State) (f : Nat → Int) :
    s.altered f = [] ↔ ∀ id ∈ presentIds s.straps, f id = s.fieldVal id := by
  simp only [State.altered, List.filter_eq_nil_iff, decide_eq_true_eq, ne_eq, not_not]

/-- Every field holds the value the change leaves (R10). -/
theorem applyValues_val {s : State} (h : s.setup.recs.map (·.id) = presentIds s.straps) (src : Source) (f : Nat → Int)
    {id : Nat} (hid : id ∈ presentIds s.straps) : (s.applyValues src f).fieldVal id = f id := by
  rcases applyValues_inner s src f with ⟨ha, he⟩ | ⟨-, hi⟩
  · rw [he]; exact ((altered_nil_iff s f).1 ha id hid).symm
  · have hr := hi.recs
    show Setup.val (s.applyValues src f).setup id = f id
    have : Setup.val (s.applyValues src f).setup id
        = Setup.val { s.setup with recs := newRecs s.setup.recs f src (nextGen s.setup.gen), gen := nextGen s.setup.gen }
          id := by unfold Setup.val; rw [hr]
    rw [this]
    exact val_newRecs (h ▸ hid) f src _ _

/-- The generation after values are applied (R11). -/
theorem applyValues_gen (s : State) (src : Source) (f : Nat → Int) :
    (s.applyValues src f).setup.gen = if s.altered f = [] then s.setup.gen else nextGen s.setup.gen := by
  rcases applyValues_inner s src f with ⟨ha, he⟩ | ⟨ha, hi⟩
  · rw [he, if_pos ha]
  · rw [if_neg ha]; exact hi.gen

/-- The blocks outside the inner ones are as they were. -/
theorem applyValues_blocks (s : State) (src : Source) (f : Nat → Int) : BlocksSame s (s.applyValues src f) := by
  rcases applyValues_inner s src f with ⟨-, he⟩ | ⟨-, hi⟩
  · rw [he]; exact ⟨rfl, rfl, rfl, rfl, rfl, rfl, rfl, rfl, rfl, rfl⟩
  · exact ⟨hi.pending, hi.straps, hi.baseTick, hi.holder, hi.localDisabled, hi.panel, hi.comp, hi.store, hi.memLast,
      hi.fbLast⟩

/-- A validated change names only present fields (R6 step 1). -/
theorem validate_present {st : Straps} {cur : Nat → Int} {pairs : List (Nat × Int)} {f : Nat → Int} {c : Bool}
    (h : validate st cur pairs = .ok (f, c)) : ∀ q ∈ pairs, (fieldSpec st q.1).isSome = true := by
  unfold validate at h
  split at h
  · simp at h
  · rename_i hn
    intro q hq
    have := List.find?_eq_none.1 hn q hq
    simpa [Option.isSome_iff_ne_none] using this

end Sys2Proof.Machine
end

