-- ==== Sys2Proof/Laws/Memory.lean ====
section
/-!
SUPPORT. The canonical form of an addressed memory: every operation keeps it, and a read after a write gives the value
written at that address and what was there before at every other.
-/

namespace Sys2Proof.Machine

variable {α : Type} [DecidableEq α]

/-- The canonical form as an ordered list of cells without the default. -/
theorem Cells.wf_iff (d : α) (m : Cells α) :
    Cells.wf d m = true ↔ (m.Pairwise fun c e => c.1 < e.1) ∧ ∀ c ∈ m, c.2 ≠ d := by
  induction m with
  | nil => simp [Cells.wf]
  | cons c m ih =>
    obtain ⟨k, v⟩ := c
    simp only [Cells.wf, Bool.and_eq_true, decide_eq_true_eq, List.all_eq_true, ih, List.pairwise_cons,
      List.forall_mem_cons]
    tauto

theorem Cells.mem_put {d : α} {m : Cells α} {a : Nat} {v : α} {c : Nat × α} (h : c ∈ Cells.put d m a v) :
    c ∈ m ∨ (c = (a, v) ∧ v ≠ d) := by
  induction m with
  | nil =>
    simp only [Cells.put] at h
    split at h <;> simp_all
  | cons e m ih =>
    obtain ⟨k, w⟩ := e
    simp only [Cells.put] at h
    split at h
    · split at h <;> simp_all
      tauto
    · split at h
      · split at h <;> simp_all
        tauto
      · rcases List.mem_cons.1 h with h | h
        · simp [h]
        · rcases ih h with h | h
          · simp [h]
          · exact .inr h

theorem Cells.wf_put {d : α} {m : Cells α} (h : Cells.wf d m = true) (a : Nat) (v : α) :
    Cells.wf d (Cells.put d m a v) = true := by
  induction m with
  | nil =>
    simp only [Cells.put]
    split <;> simp_all [Cells.wf]
  | cons e m ih =>
    obtain ⟨k, w⟩ := e
    simp only [Cells.wf, Bool.and_eq_true, decide_eq_true_eq, List.all_eq_true] at h
    obtain ⟨⟨hw, hk⟩, hm⟩ := h
    simp only [Cells.put]
    split
    · split
      · simp_all [Cells.wf]
        exact hk
      · rename_i h1 h2
        simp only [Cells.wf, Bool.and_eq_true, decide_eq_true_eq, List.all_eq_true, List.forall_mem_cons]
        exact ⟨⟨h2, h1, fun c hc => h1.trans (hk c hc)⟩, ⟨hw, hk⟩, hm⟩
    · split
      · split
        · exact hm
        · simp_all [Cells.wf]
          exact hk
      · simp only [Cells.wf, Bool.and_eq_true, decide_eq_true_eq, List.all_eq_true]
        refine ⟨⟨hw, fun c hc => ?_⟩, ih hm⟩
        rcases Cells.mem_put hc with hc | ⟨rfl, -⟩
        · exact hk c hc
        · simp only; omega

theorem Cells.wf_putRun {d : α} {m : Cells α} (h : Cells.wf d m = true) (a : Nat) (vs : List α) :
    Cells.wf d (Cells.putRun d m a vs) = true := by
  induction vs generalizing m a with
  | nil => exact h
  | cons v vs ih => exact ih (Cells.wf_put h a v) (a + 1)

theorem Cells.wf_fill {d : α} {m : Cells α} (h : Cells.wf d m = true) (as : List Nat) (v : α) :
    Cells.wf d (Cells.fill d m as v) = true := by
  unfold Cells.fill
  induction as generalizing m with
  | nil => exact h
  | cons a as ih => exact ih (Cells.wf_put h a v)

theorem Cells.wf_mapVals {d : α} {m : Cells α} (h : Cells.wf d m = true) (f : α → α) :
    Cells.wf d (Cells.mapVals d f m) = true := by
  rw [Cells.wf_iff] at h ⊢
  constructor
  · refine List.Pairwise.filterMap _ ?_ h.1
    intro a b hab c hc e he
    split at hc <;> split at he <;> simp_all
    subst hc; subst he; exact hab
  · intro c hc
    obtain ⟨a, -, h⟩ := List.mem_filterMap.1 hc
    split at h <;> simp_all
    subst h; assumption

theorem Cells.wf_filter {d : α} {m : Cells α} (h : Cells.wf d m = true) (q : Nat × α → Bool) :
    Cells.wf d (m.filter q) = true := by
  rw [Cells.wf_iff] at h ⊢
  exact ⟨h.1.filter _, fun c hc => h.2 c (List.mem_filter.1 hc).1⟩

omit [DecidableEq α] in
theorem Cells.get_of_lt {d : α} {m : Cells α} {a : Nat} (h : ∀ c ∈ m, a < c.1) : Cells.get d m a = d := by
  induction m with
  | nil => rfl
  | cons e m ih =>
    obtain ⟨k, w⟩ := e
    have hk : a < k := h (k, w) (by simp)
    simp only [Cells.get]
    rw [if_neg (by omega), ih fun c hc => h c (by simp [hc])]

/-- A read after a write. -/
theorem Cells.get_put {d : α} {m : Cells α} (h : Cells.wf d m = true) (a : Nat) (v : α) (b : Nat) :
    Cells.get d (Cells.put d m a v) b = if b = a then v else Cells.get d m b := by
  induction m with
  | nil =>
    simp only [Cells.put]
    split <;> by_cases hb : b = a <;> simp_all [Cells.get]
    exact fun h => (hb h.symm).elim
  | cons e m ih =>
    obtain ⟨k, w⟩ := e
    simp only [Cells.wf, Bool.and_eq_true, decide_eq_true_eq, List.all_eq_true] at h
    obtain ⟨⟨hw, hk⟩, hm⟩ := h
    have hout : ∀ x, x ≤ k → Cells.get d m x = d := fun x hx =>
      Cells.get_of_lt fun c hc => lt_of_le_of_lt hx (hk c hc)
    simp only [Cells.put]
    split
    · rename_i hak
      split
      · rename_i hv
        by_cases hb : b = a
        · subst hb; simp only [Cells.get, if_true]
          rw [if_neg (by omega), hout b (by omega), hv]
        · simp [hb]
      · by_cases hb : b = a
        · subst hb; simp [Cells.get]
        · simp only [if_neg hb]; rw [Cells.get, if_neg (by omega)]
    · split
      · rename_i hak
        subst hak
        split
        · rename_i hv
          by_cases hb : b = a
          · subst hb; simp [hout b (le_refl b), hv]
          · simp only [if_neg hb, Cells.get]; rw [if_neg (by omega)]
        · by_cases hb : b = a
          · subst hb; simp [Cells.get]
          · simp only [if_neg hb, Cells.get]; rw [if_neg (by omega), if_neg (by omega)]
      · simp only [Cells.get, ih hm]
        by_cases hb : b = a
        · subst hb; rw [if_neg (by omega)]; simp
        · simp [hb]

/-- The memories of the machine after reset are in the canonical form, whatever the straps. -/
theorem memory_resetWith (st : Straps) {flash : Cells Word} (h : Cells.wf erasedWord flash = true) :
    MemoryLaw (State.resetWith st flash) :=
  ⟨rfl, rfl, rfl, rfl, rfl, rfl, rfl, h⟩

theorem memory_reset : MemoryLaw State.reset := memory_resetWith _ rfl

/-- The flash that a power-on reset leaves is in the canonical form. -/
theorem wf_applyUpset {m : Cells Word} (h : Cells.wf erasedWord m = true) (n : Nat) (u : FlashUpset) :
    Cells.wf erasedWord (applyUpset m n u) = true := by
  unfold applyUpset
  induction u generalizing m with
  | nil => exact h
  | cons x u ih =>
    refine ih ?_
    dsimp only
    split
    · exact Cells.wf_put h _ _
    · exact h

theorem wf_cutFlash {t : Store} (h : Cells.wf erasedWord t.flash = true) (w : Nat) (u : FlashUpset) :
    Cells.wf erasedWord (cutFlash t w u) = true := by
  unfold cutFlash
  split
  · split
    · exact Cells.wf_put (wf_applyUpset h _ _) _ _
    · exact h
  · exact Cells.wf_putRun h _ _
  · exact h

end Sys2Proof.Machine
end

