-- ==== Sys2Proof/WellFormed.lean ====
section
/-!
DEFINITION. Which commands name things that can exist: keys 0..63 (R26), encoders 0..7 (R38), LED drives 0..31 (R43),
channels 1..4 (R49), words of a 2,048-word sector (R148). A command outside these is no command of the part; the
machine leaves its state as it is on one (log 4).
-/

namespace Sys2Proof

/-- Every word an upset names lies in the sector (R148). -/
def FlashUpset.wf (u : FlashUpset) : Bool := u.all fun c => decide (c.1 < Config.sectorWords)

/-- The operands of the command lie within what the part has at most. -/
def Instr.wf : Instr → Bool
  | .powerOnReset _ written upset => decide (written < Config.sectorWords) && FlashUpset.wf upset
  | .keyPress k => decide (k < 64)
  | .keyRelease k => decide (k < 64)
  | .detent e _ => decide (e < 8)
  | .ledPwmPeriod l => decide (l < 32)
  | .settleExpiry c => decide (1 ≤ c) && decide (c ≤ 4)
  | .scanSectorReadEnd u => FlashUpset.wf u
  | .eraseEnd u => FlashUpset.wf u
  | .programEnd u => FlashUpset.wf u
  | .verifyEnd u => FlashUpset.wf u
  | .recallReadEnd u => FlashUpset.wf u
  | .portReset _ | .abort _ | .startWord _ _ | .frameWord _ _ | .dataWord _ _ | .checkWord _ _ | .wordRead _
  | .identify _ | .getNotices _ | .setAttention _ | .setupRead _ | .setupWrite _ | .setupExchange _
  | .defaultSetup _ | .lock _ | .unlock _ | .writeKeymap _ | .writeKnobmap _ | .writeLedmap _
  | .dataInCompletion _ | .beep _ | .triggerStatus _ | .runControl _ | .runControlForce _ | .hold _ | .release _
  | .readWaveform _ | .segmentInfo _ | .showSegment _ | .clearDisplay _ | .writeOverlay _ | .fillOverlay _
  | .writePalette _ | .readScreen _ | .saveSetup _ | .recallSetup _ | .eraseSetup _ | .setStartup _
  | .listSetups _ | .setClock _ | .scanTick _ _ _ | .toneExpiry | .echo _ | .echoTimeout | .keptSample _ _ _ _ _
  | .holdoffExpiry | .autoTimerExpiry | .trigOutPulseEnd | .renderColumnStep | .frameExpiry | .buildEnd
  | .firstWordMarkEnd | .clockRise | .probeCompEdge | .prstRelease _ | .sampleMemoryAccess | .frameBufferAccess => true

end Sys2Proof
end

