-- ==== Sys2Proof/Tests/Slice0.lean ====
section
/-!
SUPPORT. Tests: the well-formedness smoke, examples that the manual works out, and for every obligation with premises a
witness that meets them, with each of its clauses reached at the edge of its range. Expected results are the manual's or
are worked from it by hand; each test names its rule.
-/

namespace Sys2Proof.Tests

set_option Elab.async false

open Sys2Proof Sys2Proof.Machine

/-! ## Helpers -/

/-- The state a command leaves. -/
def after (c : Instr) (s : State) : State :=
  match exec c s with
  | .next t => t
  | _ => s

/-- A state with a request offered by a port. -/
def offer (s : State) (p : Port) (kind : BitVec 8) (ws : List Word) : State :=
  s.updPort p fun ps => { ps with link := .executing, staged := some ⟨kind, ws, false⟩ }

/-- A request made of PORT_A on a state. -/
def ask (c : Instr) (kind : BitVec 8) (s : State) (ws : List Word) : State := after c (offer s .a kind ws)

/-- The completion code of PORT_A's response. -/
def codeOf (s : State) : Option Word := s.portA.response.map fun r => r.words.getD 0 0

/-- The result words of PORT_A's response. -/
def results (s : State) : List Word := ((s.portA.response.map (·.words)).getD []).drop 3 |>.dropLast

/-- The codes that a request gives for several parameter lists. -/
def codes (c : Instr) (kind : BitVec 8) (s : State) (wss : List (List Word)) : List (Option Word) :=
  wss.map fun ws => codeOf (ask c kind s ws)

/-- An id/value pair as three words. -/
def pairWords (id : Nat) (v : Int) : List Word := word id :: wordsValue v

/-- The reset state with the lock held by PORT_B. -/
def lockedByB : State := { State.reset with setup := { State.reset.setup with holder := some .b } }

/-- The reset state in STOP. -/
def stopped : State := { State.reset with acq := { State.reset.acq with mode := .stop, state := .stopped } }

/-- A store with nothing to do. -/
def quiet (s : State) : State := { s with store := { s.store with state := .idle, op := none } }

/-- A stopped part with segment 0 COMPLETE: two of its four snapshot values are its channel and its length of 500. -/
def withSegment (holdsA : Nat) (holds : List HoldEntry) : State :=
  { stopped with
    acq := { stopped.acq with
      segs := [(0, { Seg.blank with state := .complete, snap := some 0, seq := 7, p := 250, holdsA := holdsA, current := true })]
      snaps := updateAt stopped.acq.snaps 0 fun n => { n with refs := 1, gen := 1, vals := [(0, 1), (33, 0)] } }
    portA := { stopped.portA with holds := holds } }

/-- A stopped part with segment 0 COMPLETE and current, and segment 5 COMPLETE. -/
def twoSegments : State :=
  { withSegment 0 [] with
    acq := { (withSegment 0 []).acq with
      segs := (withSegment 0 []).acq.segs ++ [(5, { Seg.blank with state := .complete, snap := some 0, seq := 8, p := 250 })]
      snaps := updateAt (withSegment 0 []).acq.snaps 0 fun n => { n with refs := 2 } } }

/-- A running part with segment 0 FILLING, 500 samples long with 250 before the trigger. -/
def filling (st : AcqState) (fill post : Nat) : State :=
  { State.reset with
    acq := { State.reset.acq with
      mode := .single, state := st, fillCount := fill, postCount := post, decim := some 1
      segs := [(0, { Seg.blank with state := .filling, snap := some 0, p := 250 })]
      snaps := updateAt State.reset.acq.snaps 0 fun n =>
        { n with refs := 1, gen := 1, vals := [(0, 1), (33, 0), (41, 0), (43, 128), (44, 4)] } } }

/-- A store at work on an operation. -/
def working (st : StoreState) (kind : OpKind) (marked : Bool) (buffer : List Word) : State :=
  { State.reset with store := { State.reset.store with
    state := st, op := some ⟨kind, some 3, .port .a, false⟩, marked := marked, buffer := buffer } }

/-- The premises of an offered request are met by `offer`. -/
theorem offers_offer (s : State) (p : Port) (kind : BitVec 8) (ws : List Word) :
    Offers (offer s p kind ws) p kind ws := by cases p <;> exact ⟨rfl, rfl⟩

theorem setupLaw_reset : SetupLaw State.reset :=
  ⟨by decide +kernel, by decide +kernel, by unfold DependentLimits; decide +kernel⟩

theorem memoryLaw_reset : MemoryLaw State.reset := by unfold MemoryLaw; decide +kernel

theorem memoryLaw_withSegment : MemoryLaw (withSegment 0 []) := by unfold MemoryLaw; decide +kernel

theorem memoryLaw_filling : MemoryLaw (filling .pretrig 0 0) := by unfold MemoryLaw; decide +kernel

/-- The records of the helper with segment 0 FILLING. -/
theorem seg_filling (st : AcqState) (fill post i : Nat) : (filling st fill post).acq.seg i
    = if i = 0 then { Seg.blank with state := .filling, snap := some 0, p := 250 } else Seg.blank := by
  cases i <;> rfl

/-- The records of the helper with segment 0 COMPLETE. -/
theorem seg_withSegment (n : Nat) (hs : List HoldEntry) (i : Nat) : (withSegment n hs).acq.seg i
    = if i = 0 then
        { Seg.blank with state := .complete, snap := some 0, seq := 7, p := 250, holdsA := n, current := true }
      else Seg.blank := by
  cases i <;> rfl

theorem acqLaw_filling : AcqLaw (filling .posttrig 250 249) := by
  refine ⟨by decide, ⟨fun _ => .inr (.inr rfl), fun _ => ⟨0, rfl⟩⟩, ?_, ?_, ?_⟩
  · intro i j hi hj
    simp only [seg_filling] at hi hj
    split at hi <;> split at hj <;> simp_all [Seg.blank]
  · intro i j hi
    simp only [seg_filling] at hi
    split at hi <;> simp [Seg.blank] at hi
  · intro i hi
    simp only [seg_filling] at hi
    split at hi <;> simp [Seg.blank] at hi

theorem acqLaw_withSegment (n : Nat) (hs : List HoldEntry) : AcqLaw (withSegment n hs) := by
  refine ⟨⟨fun _ => rfl, fun _ => rfl⟩, ⟨?_, fun h => by rcases h with h | h | h <;> cases h⟩, ?_, ?_, ?_⟩
  · rintro ⟨i, hi⟩
    simp only [seg_withSegment] at hi
    split at hi <;> simp [Seg.blank] at hi
  · intro i j hi
    simp only [seg_withSegment] at hi
    split at hi <;> simp [Seg.blank] at hi
  · intro i j hi hj
    simp only [seg_withSegment] at hi hj
    split at hi <;> split at hj <;> simp_all [Seg.blank]
  · intro i hi
    simp only [seg_withSegment] at hi ⊢
    split at hi <;> simp_all [Seg.blank]

/-- R86, R87: nothing is COMPLETE, and the segment that fills lies below K. -/
theorem keptLaw_filling : KeptLaw (filling .posttrig 250 249) := by
  refine ⟨fun i h => ?_, fun i h => ?_⟩ <;> rw [seg_filling] at *
  · split at h <;> simp [Seg.blank] at h
  · rw [if_neg (by rintro rfl; exact absurd h (by decide +kernel))]
    exact .inl rfl

/-- R86, R87: segment 0 is current, and held as often as its record says. -/
theorem keptLaw_withSegment (n : Nat) (hs : List HoldEntry) : KeptLaw (withSegment n hs) := by
  have k : (withSegment n hs).slots = (withSegment 0 []).slots := rfl
  refine ⟨fun i h => .inr ?_, fun i h => ?_⟩ <;> rw [seg_withSegment] at * <;> rw [k] at *
  · split at h
    · subst i
      exact ⟨by decide +kernel, .inl rfl⟩
    · cases h
  · rw [if_neg (by rintro rfl; exact absurd h (by decide +kernel))]
    exact .inl rfl

/-- R88: entry 0 is referred to once, and no other entry is. -/
theorem snapshotLaw_filling : SnapshotLaw (filling .posttrig 250 249) := by
  refine ⟨rfl, ?_, ?_, ?_, fun e h => by cases h⟩
  · intro e n h
    have : e < 12 := (List.getElem?_eq_some_iff.mp h).1
    interval_cases e <;> (injection h with h; subst h; rfl)
  all_goals intro i; simp only [seg_filling]; split <;> simp_all [Seg.blank]

theorem renderQueueLaw_filling : RenderQueueLaw (filling .posttrig 250 249) := by
  refine ⟨by decide, by decide, ?_, ?_, ?_, fun _ => ⟨rfl, rfl⟩⟩
  · rintro i (h | ⟨r, h, -⟩) <;> cases h
  · intro i
    simp only [seg_filling]
    split <;> simp [Seg.blank]
  · rintro r h
    cases h

theorem renderQueueLaw_withSegment (n : Nat) (hs : List HoldEntry) : RenderQueueLaw (withSegment n hs) := by
  refine ⟨Nat.zero_le _, List.nodup_nil, ?_, ?_, ?_, fun _ => ⟨rfl, rfl⟩⟩
  · rintro i (h | ⟨r, h, -⟩) <;> cases h
  · intro i
    simp only [seg_withSegment]
    split <;> simp [Seg.blank]
  · rintro r h
    cases h

/-- R102: one explicit hold, counted in the record. -/
theorem holdLaw_withSegment : HoldLaw (withSegment 1 [⟨0, false⟩]) := by
  refine ⟨⟨by decide, ?_, ?_, rfl, by decide⟩, ⟨by decide, ?_, by decide, rfl, by decide⟩⟩
  · intro i
    cases i <;> rfl
  · intro h hh
    simp [withSegment, State.port] at hh
    subst hh
    rfl
  · intro i
    cases i <;> rfl

/-! ## Well-formedness and decoding -/

/-- Each check of a command's operands refuses an ill-formed one (WellFormed). -/
theorem test_ill_formed_refused :
    [Instr.powerOnReset ⟨.two, .tenMillion, .s⟩ 2048 [], .powerOnReset ⟨.two, .tenMillion, .s⟩ 0 [(2048, 0)],
      .keyPress 64, .keyRelease 64, .detent 8 true, .ledPwmPeriod 32, .settleExpiry 0, .settleExpiry 5,
      .scanSectorReadEnd [(2048, 0)], .eraseEnd [(2048, 0)], .programEnd [(2048, 0)], .verifyEnd [(2048, 0)],
      .recallReadEnd [(2048, 0)]].all (fun c => !c.wf) = true := by decide

/-- The table spells no command by bits. -/
theorem test_no_word_spells : decodeTableWord 16 0x1100 = none := rfl

/-! ## The step -/

theorem witness_StepRunsFront : ({ State.reset with pending := [Instr.clockRise] }).pending = [Instr.clockRise] := rfl

/-- R61, R160: one command, then one base tick. -/
theorem test_step_then_tick :
    (match step { State.reset with pending := [Instr.clockRise] } with
      | .next t => (t.store.clock, t.pending, t.baseTick)
      | _ => (0, [], 0)) = (1, [], 0) := by decide +kernel

/-- A part on which a press and a detent wait. -/
def twoEventsDue : State :=
  { State.reset with panel := { State.reset.panel with due := [.press 63, .detent 7 false] } }

/-- A part whose link is under way. -/
def linkBusy : State := { State.reset with fe := { State.reset.fe with link := some ⟨1, 0⟩ } }

/-- R26: an event that waits. R61: no frame to send. R52: after channel 4 was served, channel 1 comes first. -/
theorem witness_IdleSteps :
    (twoEventsDue.pending = [] ∧ twoEventsDue.panel.due = .press 63 :: [.detent 7 false])
      ∧ (linkBusy.pending = [] ∧ linkBusy.panel.due = [] ∧ linkBusy.fe.link.isSome = true)
      ∧ State.reset.pending = [] ∧ State.reset.panel.due = [] ∧ State.reset.fe.link = none
      ∧ 0 < State.reset.fe.chans.length ∧ (State.reset.fe.lastServed + 0) % State.reset.fe.chans.length = 0
      ∧ ∃ c, State.reset.fe.chans[0]? = some c ∧ c.upd = .waiting := by
  refine ⟨⟨rfl, rfl⟩, ⟨rfl, rfl, rfl⟩, rfl, rfl, rfl, by decide, rfl, _, rfl, rfl⟩

/-- R26, R52, R61: an idle step takes a press of key 63 (REPORT) before time passes; the next one sends channel 1's frame
and counts one tick of its echo timer. -/
theorem test_idle :
    let s := { State.reset with panel := { State.reset.panel with due := [.press 63] } }
    (match step s with
      | .next t => (t.portA.queue, t.panel.due, t.baseTick)
      | _ => ([], [], 9)) = ([.panelKey 63 true], [], 0)
      ∧ (match step State.reset with
        | .next t => (t.fe.link.map (·.word), t.fe.echoTimer, t.baseTick)
        | _ => (none, none, 9)) = (some 0x1100, some 199999, 1)
      ∧ (match step State.reset with
        | .next t => t.store.op
        | _ => none) = some ⟨.scan, none, .start, false⟩ := by decide +kernel

/-- R79: the PROBE_COMP wave falls at base tick 500,000 and rises at 1,000,000, without any command. -/
theorem test_probe_follows :
    let next := fun (s : State) => match step s with
      | .next t => t.auxLevel
      | _ => false
    State.reset.auxLevel = true
      ∧ next { State.reset with baseTick := 499998 } = true ∧ next { State.reset with baseTick := 499999 } = false
      ∧ next { State.reset with baseTick := 999998 } = false ∧ next { State.reset with baseTick := 999999 } = true := by
  decide +kernel

theorem witness_EveryCommandAnswers : ∀ st w u, Instr.clockRise ≠ .powerOnReset st w u := fun _ _ _ h => by cases h

theorem witness_ResetLeaves : Cells.wf erasedWord [(2048, (1 : Word)), (2049, 3)] = true := by decide

/-- R1, R3, R180: 56 fields on a 4-channel part, 42 on a 2-channel part. -/
theorem test_fields_present :
    (presentIds ⟨.four, .tenMillion, .l⟩).length = 56 ∧ (presentIds ⟨.two, .twentyMillion, .s⟩).length = 42 := by
  decide +kernel

/-- R37, R39, R43: the default maps. -/
theorem test_default_maps :
    State.reset.panel.keymap.length = 64 ∧ State.reset.panel.knobmap.length = 8
      ∧ State.reset.panel.ledmap.length = 32 := by decide +kernel

theorem witness_LockLawKept : LockLaw State.reset ∧ ∃ t, step State.reset = .next t := ⟨fun _ => rfl, _, rfl⟩

theorem witness_NoticeLawKept : NoticeLaw State.reset ∧ ∃ t, step State.reset = .next t := by
  refine ⟨⟨⟨by decide, ?_⟩, by decide, ?_⟩, _, rfl⟩ <;> exact List.Pairwise.nil

/-- A part about to take the last sample of its filling segment. -/
def lastSample : State := { filling .posttrig 250 249 with pending := [Instr.keptSample 9 0 0 0 false] }

theorem witness_AcqLawKept : MemoryLaw lastSample ∧ AcqLaw lastSample ∧ ∃ t, step lastSample = .next t :=
  ⟨memoryLaw_filling, acqLaw_filling, _, rfl⟩

theorem witness_SnapshotLawKept :
    MemoryLaw lastSample ∧ AcqLaw lastSample ∧ KeptLaw lastSample ∧ SnapshotLaw lastSample
      ∧ ∃ t, step lastSample = .next t :=
  ⟨memoryLaw_filling, acqLaw_filling, keptLaw_filling, snapshotLaw_filling, _, rfl⟩

theorem witness_RenderQueueLawKept :
    MemoryLaw lastSample ∧ AcqLaw lastSample ∧ KeptLaw lastSample ∧ RenderQueueLaw lastSample
      ∧ ∃ t, step lastSample = .next t :=
  ⟨memoryLaw_filling, acqLaw_filling, keptLaw_filling, renderQueueLaw_filling, _, rfl⟩

/-- A port reset gives back a hold. -/
theorem witness_HoldLawKept :
    let s := { withSegment 1 [⟨0, false⟩] with pending := [Instr.portReset .a] }
    MemoryLaw s ∧ HoldLaw s ∧ ∃ t, step s = .next t :=
  ⟨by unfold MemoryLaw; decide +kernel, holdLaw_withSegment, _, rfl⟩

/-- A port reset gives back the hold of a segment that stays current. -/
theorem witness_KeptLawKept :
    let s := { withSegment 1 [⟨0, false⟩] with pending := [Instr.portReset .a] }
    MemoryLaw s ∧ AcqLaw s ∧ HoldLaw s ∧ KeptLaw s ∧ (s.acq.seg 0).state = .complete ∧ ∃ t, step s = .next t :=
  ⟨by unfold MemoryLaw; decide +kernel, acqLaw_withSegment 1 [⟨0, false⟩], holdLaw_withSegment, keptLaw_withSegment 1 [⟨0, false⟩],
    rfl, _, rfl⟩

theorem witness_MemoryLawKept : MemoryLaw State.reset ∧ ∃ t, step State.reset = .next t := ⟨memoryLaw_reset, _, rfl⟩

/-- The scan's last read ends. -/
theorem witness_StoreLawKept :
    let s := { State.reset with
      store := { State.reset.store with op := some ⟨.scan, none, .start, false⟩, scanAt := 17 }
      pending := [Instr.scanSectorReadEnd []] }
    StoreLaw State.reset ∧ StoreLaw s ∧ ∃ t, step s = .next t := by
  refine ⟨⟨by decide, by decide, fun _ h => by cases h⟩, ⟨by decide, by decide, ?_⟩, _, rfl⟩
  intro op h
  injection h with h
  subst h
  decide

theorem witness_SetupLawKept : SetupLaw State.reset ∧ ∃ t, step State.reset = .next t := ⟨setupLaw_reset, _, rfl⟩

/-- R10, R11: a step that makes a change, and the generation after it. -/
theorem witness_GenerationCountsChanges :
    let s := { offer State.reset .a kindSetupWrite ([0, 0] ++ pairWords 1 9) with pending := [Instr.setupWrite .a] }
    ∃ t, step s = .next t ∧ t.setup.gen = 2 ∧ (∀ st w u rest, s.pending ≠ Instr.powerOnReset st w u :: rest)
      ∧ (∀ k a b rest, s.pending ≠ Instr.scanTick k a b :: rest)
      ∧ State.reset.panel.due = [] ∧ twoEventsDue.panel.due = .press 63 :: [.detent 7 false] := by
  refine ⟨_, rfl, by decide +kernel, ?_, ?_, rfl, rfl⟩
  · intro st w u rest h
    cases h
  · intro k a b rest h
    cases h

/-- R10, R11, R26: a scan tick that first takes two detents of knob 2 makes two changes. -/
theorem test_two_changes :
    (after (.scanTick 0 0 0) { State.reset with panel := { State.reset.panel with
      due := [.detent 2 false, .detent 2 false] } }).setup.gen = 3 := by decide +kernel

/-- A part at work on a build, `n` words of it written. -/
def building (n : Nat) : State :=
  let s := after .frameExpiry State.reset
  { s with comp := { s.comp with built := n } }

theorem witness_BuildLawKept :
    let s := { building 0 with pending := [Instr.frameBufferAccess] }
    MemoryLaw s ∧ BuildLaw s ∧ ∃ t, step s = .next t := by
  refine ⟨memoryLaw_reset, ⟨by decide, by decide, ?_⟩, _, rfl⟩
  intro b _ k hk
  exact absurd hk (Nat.not_lt_zero k)

/-- R130: a build ends while a screen read stands. -/
theorem witness_NoFlipWhileScreenIsRead :
    let s := { State.reset with
      pending := [Instr.clockRise], comp := { State.reset.comp with state := .composing, reads := 1 } }
    ∃ t, step s = .next t ∧ 0 < t.comp.reads ∧ (∀ st w u rest, s.pending ≠ Instr.powerOnReset st w u :: rest) := by
  refine ⟨_, rfl, by decide +kernel, ?_⟩
  intro st w u rest h
  cases h

/-- A part whose segment 0 fills with the live values: channel 1 has confirmed its settings, the others are in FAULT. -/
def armedLive : State :=
  let s := filling .posttrig 250 249
  { s with
    fe := { s.fe with chans := s.fe.chans.mapIdx fun i c =>
      { c with upd := .idle, confirmed := if i = 0 then some ⟨false, 8, 0, false⟩ else none, fault := decide (i ≠ 0) } }
    acq := { s.acq with snaps := updateAt s.acq.snaps 0 fun n => { n with vals := liveAcqValues State.reset } } }

/-- R49, R52, R58: the first update of every channel waits. -/
theorem settledLaw_reset : SettledLaw State.reset := by
  refine ⟨by decide +kernel, ?_, ?_, ?_, ?_⟩
  · intro f h
    cases h
  · intro n h1 h4
    have : n ≤ 4 := h4
    interval_cases n <;>
      refine ⟨fun h => ?_, fun h => ?_, fun h => absurd rfl h, fun h => ?_, fun h => ?_⟩ <;> cases h
  · intro h
    rcases h with h | h | h <;> cases h
  · intro i h
    cases h

theorem settledLaw_armedLive : SettledLaw armedLive := by
  refine ⟨by decide +kernel, ?_, ?_, fun _ => ?_, ?_⟩
  · intro f h
    cases h
  · intro n h1 h4
    have : n ≤ 4 := h4
    interval_cases n <;> refine ⟨fun h => ?_, fun h => ?_, fun h => absurd rfl h, fun h => ?_, fun _ => ?_⟩
    all_goals first
      | cases h
      | exact .inl rfl
      | exact .inr ⟨⟨false, 8, 0, false⟩, rfl, by decide +kernel, by decide +kernel, by decide +kernel, by decide +kernel⟩
  · intro n h1 h4 _
    have : n ≤ 4 := h4
    interval_cases n <;> exact ⟨rfl, rfl, rfl⟩
  · intro i h
    have hs : armedLive.acq.seg i = (filling .posttrig 250 249).acq.seg i := rfl
    rw [hs, seg_filling] at h ⊢
    split at h
    · rw [if_pos (by assumption)]
      decide +kernel
    · cases h

/-- R58, R93: the premises of a step, and a segment that fills with channel 1 confirmed. -/
theorem witness_SettledLawKept :
    (MemoryLaw armedLive ∧ AcqLaw armedLive ∧ SnapshotLaw armedLive ∧ SetupLaw armedLive ∧ SettledLaw armedLive
        ∧ ∃ t, step armedLive = .next t)
      ∧ (armedLive.acq.seg 0).state = .filling ∧ 1 ∈ armedLive.acq.segChannels (armedLive.acq.seg 0) := by
  refine ⟨⟨by unfold MemoryLaw; decide +kernel, acqLaw_filling, ?_, setupLaw_reset, settledLaw_armedLive, _, rfl⟩, rfl,
    by decide +kernel⟩
  obtain ⟨h1, -, h3, h4, h5⟩ := snapshotLaw_filling
  refine ⟨rfl, ?_, h3, h4, h5⟩
  intro e n h
  have : e < 12 := (List.getElem?_eq_some_iff.mp h).1
  interval_cases e <;> (injection h with h; subst h; rfl)

/-! ## Values -/

/-- R182: the worked example of the CRC, worked by hand from the polynomial for one word of zeros and for none. -/
theorem test_crc_empty : crcOf [] = 0xB3C5 := rfl

theorem witness_CrcDetectsOneWord : crcOf ([1] ++ 2 :: [3]) = crcOf ([1] ++ (2 : Word) :: [3]) ∧ crcOf [1, 2] ≠ crcOf [1, 3] := by
  decide +kernel

/-- R64: at L = 128 and h = 4, and with the lower threshold at 0. -/
theorem test_rising_edges :
    [trackRising 128 4 true 128, trackRising 128 4 true 127, trackRising 128 4 false 124, trackRising 128 4 false 125,
      trackRising 3 4 false 0, trackRising 3 4 false 1]
      = [(false, true), (true, false), (true, false), (false, false), (true, false), (false, false)] := by decide

/-- R66: the third sample of a new level is the edge. -/
theorem test_ext_edges :
    [filterExt .none 0 true, filterExt .low 0 true, filterExt .low 1 true, filterExt .low 2 true, filterExt .low 2 false]
      = [(.high, 0, false), (.low, 1, false), (.low, 2, false), (.high, 0, true), (.low, 0, false)] := by decide

/-- R65: at L = 128 and h = 4, and with the upper threshold at 255. -/
theorem test_falling_edges :
    [trackFalling 128 4 true 128, trackFalling 128 4 true 129, trackFalling 128 4 false 132, trackFalling 128 4 false 131,
      trackFalling 252 4 false 255, trackFalling 252 4 false 254]
      = [(false, true), (true, false), (true, false), (false, false), (true, false), (false, false)] := by decide

theorem witness_EdgeTrackers : ExtLevel.low ≠ .none ∧ (fun i : Nat => if i = 41 then (1 : Int) else 0) 41 ≠ 4
    ∧ (fun i : Nat => if i = 41 then (4 : Int) else 0) 41 = 4 := by decide

/-- A trigger unit in a POSITIVE pulse of some samples, HIGH_SEEN set, and its fields: WIDTH, level 128, both polarities. -/
def widthAfter (count : Nat) (cond lo hi : Int) : Trig × Bool :=
  Trig.track { Trig.initial with wstate := .positive, wcount := count, highSeen := true, capA := 7 }
    (fun i => [(40, 1), (42, 2), (43, 128), (44, 4), (45, cond), (46, lo), (47, hi)].foldl
      (fun r q => if q.1 = i then q.2 else r) 0) 128 false

/-- R65, R69: one sample that rises, falls and ends a pulse in both states that count. -/
theorem witness_TriggerDecision :
    let u := { Trig.initial with wstate := .positive, highSeen := true, lowSeen := true }
    (u.highSeen = true ∧ (128 : Nat) ≤ 128) ∧ (u.lowSeen = true ∧ (128 : Nat) ≤ 128) ∧ u.wstate = .positive
      ∧ (filterExt .low 2 true).2.2 = true ∧ (filterExt .low 2 true).1 = .high := by decide

/-- R68, R69: a pulse of 49 samples that its 50th ends, against each condition at its edge; the captures; a count that is
full. -/
theorem test_width_edges :
    [widthAfter 49 0 1 50, widthAfter 49 0 1 51, widthAfter 49 1 50 99, widthAfter 49 1 49 99, widthAfter 49 2 50 50,
      widthAfter 49 2 51 99, widthAfter 49 3 50 50, widthAfter 49 3 51 99, widthAfter 49 3 1 49].map (·.2)
      = [false, true, false, true, true, false, false, true, true]
      ∧ ((widthAfter 49 0 1 50).1.capA, (widthAfter 49 0 1 50).1.capB) = (50, 7)
      ∧ ((widthAfter 49 0 1 50).1.wstate, (widthAfter 49 0 1 50).1.wcount) = (.negative, 0)
      ∧ [16777214, 16777215].map (fun n => (widthAfter n 1 1 2).1.capA) = [16777215, 16777215] := by decide +kernel

/-- R65, R67: the slopes selected, and an EXT edge to HIGH under both polarities. -/
theorem test_candidates :
    let at_ := fun slope => (Trig.track { Trig.initial with lowSeen := true }
      (fun i => if i = 42 then slope else if i = 43 then 128 else 0) 128 false).2
    let ext := fun slope pol => (Trig.track { Trig.initial with ext := .low, extCount := 2 }
      (fun i => if i = 41 then 4 else if i = 42 then slope else if i = 51 then pol else 0) 0 true).2
    [at_ 0, at_ 1, at_ 2] = [true, false, true]
      ∧ [ext 0 0, ext 1 0, ext 2 0, ext 0 1, ext 1 1, ext 2 1] = [true, false, true, false, true, true] := by
  decide +kernel

theorem witness_ImageLayers : (0 : Nat) < 800 ∧ (479 : Nat) < 480 ∧ State.reset.buildInputs.channels ≤ 4
    ∧ ((1 : Nat) ≤ 4 ∧ 0 ≤ State.reset.buildInputs.val 1 ∧ State.reset.buildInputs.val 1 ≤ 12
      ∧ 0 ≤ State.reset.buildInputs.val 5 ∧ State.reset.buildInputs.val 5 ≤ 2)
    ∧ 0 ≤ State.reset.buildInputs.val 41 ∧ State.reset.buildInputs.val 41 ≤ 4 := by decide +kernel

/-- R132 to R135: black outside the waveform area and between its lines, the graticule at its corner and its centre, a
trace of count 1 over it (count x 8 of 32: level 1), the marker at row 199 and its edges, overlay A over overlay B. -/
theorem test_image_edges :
    let b := State.reset.buildInputs
    let traced := { b with rasters := [(250 * 400 + 200, (1 : Byte))] }
    let planes := { b with
      ovA := { b.ovA with plane := [(400, 15)] }, ovB := { b.ovB with plane := [(400, 1), (401, 1)] } }
    [(19, 40), (20, 40), (519, 439), (520, 440), (21, 41), (270, 240), (527, 239), (520, 239), (527, 242), (527, 243)].map
        (fun p => pixelAt b p.1 p.2)
      = [0, 0x4208, 0x4208, 0, 0, 0x4208, 0xFFE0, 0xFFE0, 0xFFE0, 0]
      ∧ pixelAt traced 270 240 = colour (31 / 8) (63 / 8) 0
      ∧ [400, 401, 402].map (fun x => pixelAt planes x 0) = [0xFFFF, b.ovB.palette.getD 1 0, 0] := by decide +kernel

/-- A part in RUN with the front end settled and a next-slot pointer, at a record length. -/
def settledAt (ptr : Nat) (len : Int) : State :=
  { State.reset with
    fe := { State.reset.fe with chans := State.reset.fe.chans.map fun c => { c with upd := .idle } }
    setup := { State.reset.setup with recs := State.reset.setup.recs.map fun r =>
      if r.id = 33 then { r with value := len } else r }
    acq := { State.reset.acq with nextSlot := ptr } }

/-- That part with the settle timer of one channel running. -/
def settlingOn (ch : Nat) : State :=
  let s := settledAt 0 0
  { s with fe := s.fe.updChan ch fun c => { c with settle := some 1, relayMoved := true } }

/-- R57, R58, R84: a settle timer that expires in SETTLING, of the first and of the last channel. -/
theorem witness_ArmTakesSlot :
    MemoryLaw (settledAt 0 0) ∧ FrontSettled (settledAt 0 0) ∧ ¬ FrontSettled State.reset
      ∧ ∀ ch ∈ [1, 4], (settlingOn ch).acq.state = .settling ∧ 1 ≤ ch
        ∧ ch ≤ (if (settlingOn ch).straps.channels = .four then 4 else 2)
        ∧ ∃ c, (settlingOn ch).fe.chans[ch - 1]? = some c ∧ c.settle ≠ none := by
  refine ⟨by unfold MemoryLaw; decide +kernel, ?_, ?_, ?_⟩
  · intro n h1 h4 _
    have : n ≤ 4 := h4
    interval_cases n <;> exact ⟨rfl, rfl, rfl⟩
  · intro h
    have := (h 1 (by decide) (by decide) (by decide +kernel)).1
    revert this
    decide
  · intro ch h
    simp only [List.mem_cons, List.not_mem_nil, or_false] at h
    rcases h with rfl | rfl <;> exact ⟨rfl, by decide, by decide, _, rfl, by decide⟩

/-- R84, R88, R90, R93: unsettled; the pointer at 0, at the last of 2,000 slots and past it; a length that leaves one slot.
The first filling takes snapshot entry 0. -/
theorem test_arm_edges :
    State.reset.arm.acq.state = .settling
      ∧ [(0, 0), (1999, 0), (2000, 0), (0, 13)].map (fun q =>
          let t := (settledAt q.1 q.2).arm
          (t.acq.fillingIdx, t.acq.nextSlot, t.acq.newest, t.acq.state))
        = [(some 0, 1, some 0, .pretrig), (some 1999, 0, some 0, .pretrig), (some 0, 1, some 0, .pretrig),
          (some 0, 0, some 0, .pretrig)]
      ∧ ((settledAt 0 0).arm.acq.snaps.map (·.refs)) = 1 :: List.replicate 11 0
      ∧ [1, 4].map (fun ch => (after (.settleExpiry ch) (settlingOn ch)).acq.state) = [.pretrig, .pretrig]
      ∧ (after (.settleExpiry 1) (settlingOn 4)) = settlingOn 4 := by decide +kernel

/-- R72, R74, R77, R94: with P = 0 a segment passes to READY with the auto timer at AUTO_TIMEOUT, or, FORCE remembered, to
POSTTRIG without it. -/
theorem test_arm_no_pretrigger :
    let s : State := settledAt 0 0
    let z : State := { s with setup := { s.setup with recs := s.setup.recs.map fun r : FieldRec =>
      if r.id = 34 then { r with value := 0 } else r } }
    let armed := fun b : Bool => ({ z with trig := { z.trig with forced := b, holdoff := 7 } }).arm
    [false, true].map (fun b => ((armed b).acq.state, (armed b).trig.forced, (armed b).trig.holdoff,
        (armed b).trig.autoTimer))
      = [(.ready, false, 7, some ((z.fieldVal 50).toNat * 1000000)),
        (.posttrig, false, (z.fieldVal 49).toNat * 10, none)] := by decide +kernel

/-- A settled part whose channels 1 and 2 are in FAULT; channel 2 is OFF. -/
def inFault : State :=
  let s := settledAt 0 0
  { s with fe := { s.fe with chans := s.fe.chans.mapIdx fun i c => { c with fault := decide (i < 2) } } }

/-- R56, R88, R93: the segment that enters FILLING takes entry 0 and carries the FE_FAULT flag of channel 1, which is ON and
in FAULT, and not that of channel 2, which is OFF. -/
theorem witness_FillingEntered :
    EntryTaken inFault 0 (inFault.acq.snaps.set 0 ⟨0, 1, liveAcqValues inFault⟩)
      ∧ FillingEntered inFault inFault.arm 0 0 (inFault.acq.snaps.set 0 ⟨0, 1, liveAcqValues inFault⟩)
      ∧ (inFault.arm.acq.seg 0).fault = 1 := by
  refine ⟨.inr ⟨?_, ⟨_, rfl, rfl⟩, ?_, by decide +kernel⟩, ⟨?_, ⟨1, by decide +kernel, by decide +kernel⟩, ?_, by decide +kernel, by decide +kernel, by decide +kernel, by decide +kernel⟩, by decide +kernel⟩
  · rintro k ⟨h, -⟩
    cases h
  · intro k n h
    exact absurd h (Nat.not_lt_zero k)
  · exact inner_arm inFault
  · have h : inFault.arm.acq.segs = [(0, inFault.arm.acq.seg 0)] := by decide +kernel
    intro j hj
    unfold Acq.seg
    rw [h]
    cases j with
    | zero => exact absurd rfl hj
    | succ j => rfl

/-- R119: Y at 199 and -200, which the window still holds, and Y past each edge. -/
theorem witness_RowsAndDecays :
    ((199 : Int) = ((227 : Byte).toNat - 128 : Int) * 2 + 1 ∧ (-200 : Int) = ((28 : Byte).toNat - 128 : Int) * 2 + 0)
      ∧ (199 : Int) < ((228 : Byte).toNat - 128 : Int) * 2 ∧ ((27 : Byte).toNat - 128 : Int) * 2 < (-200 : Int)
      ∧ rowOf 1 false 227 = 0 ∧ rowOf 0 false 28 = 399
      ∧ Cells.wf (0 : Byte) [(0, 1), (1, 255)] = true := by decide

/-- A part with AUX_SOURCE at a code. -/
def auxFrom (code : Int) (s : State) : State :=
  { s with setup := { s.setup with recs := s.setup.recs.map fun r => if r.id = 67 then { r with value := code } else r } }

theorem witness_OutputLines :
    ProbeLaw State.reset ∧ ProbeLaw (auxFrom 1 State.reset) ∧ (∃ t, step State.reset = .next t)
      ∧ [0, 1, 2].map (fun c => (auxFrom c State.reset).fieldVal 67) = [0, 1, 2] :=
  ⟨by unfold ProbeLaw; decide +kernel, by unfold ProbeLaw; decide +kernel, ⟨_, rfl⟩, by decide +kernel⟩

/-- R178: ATTN by the masks, a waiting notice and an unread response. R79, R80: AUX by its source. -/
theorem test_lines :
    let n := { PortState.initial with queue := [Notice.feFault 1] }
    let d := { PortState.initial with link := .responding }
    let f := filling .ready 250 0
    [PortState.initial, n, { n with attnMask := 2 }, d, { d with attnMask := 1 }, { n with prst := true }].map (·.attn)
      = [false, true, false, true, false, false]
      ∧ [0, 1, 2].map (fun c => (auxFrom c f).auxLevel) = [false, true, true]
      ∧ (auxFrom 0 { f with trig := { f.trig with pulse := some 1 } }).auxLevel = true
      ∧ (auxFrom 2 State.reset).auxLevel = false := by decide +kernel

/-- R119: code 128 lies at row 199, code 227 at row 1 and code 228 at row 0, codes 28 and 27 at row 399. -/
theorem test_row_edges :
    [rowOf 0 false 128, rowOf 0 false 227, rowOf 0 false 228, rowOf 0 false 28, rowOf 0 false 27, rowOf 0 true 128,
      rowOf 200 false 255, rowOf (-200) false 0] = [199, 1, 0, 399, 399, 199, 0, 399] := by decide

/-- R124: a count of 1 always goes, a count of 255 loses an eighth with s = 3. -/
theorem test_decay :
    Cells.wf (0 : Byte) [(0, 1), (1, 255)] = true
      ∧ decayRasters 1 3 [(0, 1), (1, 255)] = [(1, 224)] ∧ decayRasters 0 3 [(0, 1), (1, 255)] = []
      ∧ decayRasters 2 3 [(0, 1), (1, 255)] = [(0, 1), (1, 255)] := by decide

/-! ## Requests that read, and the port's own -/

theorem witness_ReadingsAnswer :
    Offers (offer State.reset .a kindIdentify []) .a kindIdentify []
      ∧ Offers (offer State.reset .a kindTriggerStatus []) .a kindTriggerStatus []
      ∧ Offers (offer (withSegment 0 []) .a kindSegmentInfo [0]) .a kindSegmentInfo [0] :=
  ⟨offers_offer _ _ _ _, offers_offer _ _ _ _, offers_offer _ _ _ _⟩

/-- R180: the descriptor of a 4-channel part with 10,000,000 samples and panel L. -/
theorem test_identify : results (ask (.identify .a) kindIdentify State.reset [])
    = [1, 4, 0x0098, 0x9680, 1, 64, 8, 56, 16, 512, 64] := by decide +kernel

/-- R78: holdoff 49,800 units left, captures 50 and 400, the auto timer stopped (the manual's example). -/
theorem test_triggerStatus :
    let s := { State.reset with trig := { State.reset.trig with capA := 50, capB := 400, wcount := 50, holdoff := 498000 } }
    results (ask (.triggerStatus .a) kindTriggerStatus s [])
      = [0, 50, 0, 400, 0, 0, 50, 0, 49800, 0xFFFF, 0xFFFF, 0] := by decide +kernel

theorem witness_SetupReadAnswers :
    SetupLaw (offer State.reset .a kindSetupRead [96, 32])
      ∧ Offers (offer State.reset .a kindSetupRead [96, 32]) .a kindSetupRead [96, 32] :=
  ⟨setupLaw_reset, offers_offer _ _ _ _⟩

/-- R18: counts 0, 33, 32 and 1; ranges up to 127 and past it. -/
theorem test_setupRead_edges : codes (.setupRead .a) kindSetupRead State.reset
    [[0, 0], [0, 33], [96, 32], [97, 32], [127, 1], [128, 1]]
    = [some 6, some 6, some 0, some 6, some 0, some 6] := by decide +kernel

/-- R18: on a 2-channel part ids 14 to 17 name one field (the manual's example). -/
theorem test_setupRead_two_channels :
    (results (ask (.setupRead .a) kindSetupRead (State.resetWith ⟨.two, .tenMillion, .s⟩ []) [14, 4])).length = 8 := by
  decide +kernel

/-- R104: index 1999, 2000, CURRENT with and without a current segment. -/
theorem test_segmentInfo_edges :
    codes (.segmentInfo .a) kindSegmentInfo (withSegment 0 []) [[0], [1999], [2000], [0xFFFE], [0xFFFF]]
      = [some 0, some 0, some 6, some 6, some 0]
      ∧ codes (.segmentInfo .a) kindSegmentInfo State.reset [[0xFFFF]] = [some 10] := by decide +kernel

theorem witness_NoticesAndAttention : Offers (offer State.reset .a kindGetNotices [16]) .a kindGetNotices [16]
    ∧ Offers (offer State.reset .a kindSetAttention [3, 255]) .a kindSetAttention [3, 255] :=
  ⟨offers_offer _ _ _ _, offers_offer _ _ _ _⟩

/-- R177: counts 0, 1, 16, 17; a queue that is left empty loses LOST. -/
theorem test_getNotices_edges :
    codes (.getNotices .a) kindGetNotices State.reset [[0], [1], [16], [17]] = [some 6, some 0, some 0, some 6]
      ∧ (let s := { State.reset with portA := { State.reset.portA with queue := [.feFault 2, .feFault 3], lost := true } }
        [[1], [2]].map (fun ws => (ask (.getNotices .a) kindGetNotices s ws).portA.lost) = [true, false]) := by
  decide +kernel

theorem test_setAttention_edges : codes (.setAttention .a) kindSetAttention State.reset [[3, 255], [4, 255], [3, 256], [0, 0]]
    = [some 0, some 6, some 6, some 0] := by decide +kernel

/-! ## Setup requests -/

theorem witness_SetupRequestsApply :
    let ws := [0, 1] ++ pairWords 43 300
    SetupLaw (offer State.reset .a kindSetupWrite ws) ∧ Offers (offer State.reset .a kindSetupWrite ws) .a kindSetupWrite ws
      ∧ SetupLaw (offer State.reset .a kindSetupExchange (pairWords 1 12))
      ∧ Offers (offer State.reset .a kindSetupExchange (pairWords 1 12)) .a kindSetupExchange (pairWords 1 12)
      ∧ SetupLaw (offer State.reset .a kindDefaultSetup [])
      ∧ Offers (offer State.reset .a kindDefaultSetup []) .a kindDefaultSetup [] :=
  ⟨setupLaw_reset, offers_offer _ _ _ _, setupLaw_reset, offers_offer _ _ _ _, setupLaw_reset, offers_offer _ _ _ _⟩

/-- R19: no pair, 16 pairs, 17 pairs, an id twice, a stale generation, no such field, no such code, clamped, as asked. -/
theorem test_setupWrite_edges : codes (.setupWrite .a) kindSetupWrite State.reset
    [[0, 0], [0, 0] ++ (List.range 16).flatMap (fun i => pairWords (if i < 7 then i else i + 1) 1),
      [0, 0] ++ (List.range 17).flatMap (fun i => pairWords (if i < 7 then i else i + 1) 1),
      [0, 0] ++ pairWords 1 3 ++ pairWords 1 4, [0, 2] ++ pairWords 1 3, [0, 1] ++ pairWords 7 0,
      [0, 0] ++ pairWords 0 2, [0, 0] ++ pairWords 43 300, [0, 1] ++ pairWords 43 255]
    = [some 4, some 5, some 4, some 4, some 7, some 5, some 6, some 1, some 0] := by decide +kernel

/-- R19: generation 40, TRIG_LEVEL 300 and TRIG_HYST 8: the response gives 41, 255 and 8, and the code is CLAMPED (the
manual's example). -/
theorem test_setupWrite_example :
    let s := { State.reset with setup := { State.reset.setup with gen := 40 } }
    let t := ask (.setupWrite .a) kindSetupWrite s ([0, 40] ++ pairWords 43 300 ++ pairWords 44 8)
    codeOf t = some 1 ∧ results t = [0, 41, 0, 255, 0, 8]
      ∧ t.portB.queue = [.setupChanged 43 255 41 .portA, .setupChanged 44 8 41 .portA] := by decide +kernel

/-- R20: the value before, the value after and the generation. -/
theorem test_setupExchange :
    codes (.setupExchange .a) kindSetupExchange State.reset [pairWords 1 12, pairWords 1 13, pairWords 127 0]
      = [some 0, some 1, some 5]
      ∧ codes (.setupExchange .a) kindSetupExchange lockedByB [pairWords 1 12] = [some 8]
      ∧ results (ask (.setupExchange .a) kindSetupExchange State.reset (pairWords 1 13)) = [0, 8, 0, 12, 0, 2] := by
  decide +kernel

theorem test_defaultSetup : codes (.defaultSetup .a) kindDefaultSetup State.reset [[]] = [some 0]
    ∧ codes (.defaultSetup .a) kindDefaultSetup lockedByB [[]] = [some 8] := by decide +kernel

/-- A change that validation takes. -/
theorem taken_of (s : State) (ps : List (Nat × Int))
    (h : (match validate s.straps s.fieldVal ps with
      | .ok _ => true
      | .error _ => false) = true) : ∃ f c, validate s.straps s.fieldVal ps = .ok (f, c) := by
  split at h
  · rename_i f hv
    exact ⟨f.1, f.2, hv⟩
  · cases h

/-- The premises of a change that a command brings. -/
def Brings (c : Instr) (s : State) : Prop :=
  SetupLaw s ∧ MemoryLaw s ∧ AcqLaw s ∧ RenderQueueLaw s ∧ ∃ u f, ChangeTaken c s u f

/-- R13, R14: a SETUP_WRITE of CH1_SCALE, with a segment filling and in STOP. -/
theorem witness_AcqChangeDisposed :
    let ws := [0, 0] ++ pairWords 1 9
    ∀ s ∈ [filling .posttrig 250 249, withSegment 0 []],
      Brings (.setupWrite .a) (offer s .a kindSetupWrite ws) ∧ s.setup.changed.Nodup := by
  intro ws s hs
  have ps : readPairs (ws.drop 2) = [(1, 9)] := by decide +kernel
  simp only [List.mem_cons, List.not_mem_nil, or_false] at hs
  rcases hs with rfl | rfl
  · obtain ⟨f, c, hv⟩ := taken_of (filling .posttrig 250 249) [(1, 9)] (by decide +kernel)
    exact ⟨⟨setupLaw_reset, memoryLaw_filling, acqLaw_filling, renderQueueLaw_filling, _, f, ws, c,
      offers_offer _ _ _ _, rfl, by decide +kernel, by decide +kernel, by decide +kernel, by decide, .inl (by decide),
      by rw [ps]; exact hv⟩, List.nodup_nil⟩
  · obtain ⟨f, c, hv⟩ := taken_of (withSegment 0 []) [(1, 9)] (by decide +kernel)
    exact ⟨⟨setupLaw_reset, memoryLaw_withSegment, acqLaw_withSegment 0 [], renderQueueLaw_withSegment 0 [], _, f, ws, c,
      offers_offer _ _ _ _, rfl, by decide +kernel, by decide +kernel, by decide +kernel, by decide, .inl (by decide),
      by rw [ps]; exact hv⟩, List.nodup_nil⟩

/-- A filling part whose key 0 has an action. -/
def keyFilling (a : KeyAction) : State :=
  let s := filling .posttrig 250 249
  { s with panel := { s.panel with keymap := a :: s.panel.keymap.drop 1 } }

/-- A filling part whose store has read the good record of slot 3 for a recall by PORT_A. -/
def recalling : State :=
  let s := filling .posttrig 250 249
  { s with store := (let w := working .reading .recall false []
    { w.store with flash := (after (.programEnd []) (working .programming .save false
      ([1, 3] ++ List.replicate 12 0x2020 ++ [0]))).store.flash }) }

/-- R20, R21, R33, R34, R41, R156: a change from each other source. -/
theorem witness_AcqChangeDisposed_sources :
    Brings (.setupExchange .a) (offer (filling .posttrig 250 249) .a kindSetupExchange (pairWords 1 12))
      ∧ Brings (.defaultSetup .a) (offer (filling .posttrig 250 249) .a kindDefaultSetup [])
      ∧ (∀ a ∈ [KeyAction.dflt, .channel 4, .setField (.front 4) 1], Brings (.keyPress 0) (keyFilling a))
      ∧ Brings (.detent 0 true) (filling .posttrig 250 249) ∧ Brings (.recallReadEnd []) recalling := by
  refine ⟨?_, ?_, ?_, ?_, ?_⟩
  · obtain ⟨f, c, hv⟩ := taken_of (filling .posttrig 250 249) [(1, 12)] (by decide +kernel)
    exact ⟨setupLaw_reset, memoryLaw_filling, acqLaw_filling, renderQueueLaw_filling, _, f, pairWords 1 12, c,
      offers_offer _ _ _ _, rfl, by decide, hv⟩
  · exact ⟨setupLaw_reset, memoryLaw_filling, acqLaw_filling, renderQueueLaw_filling, _, _, [], offers_offer _ _ _ _,
      rfl, by decide, rfl⟩
  · intro a ha
    simp only [List.mem_cons, List.not_mem_nil, or_false] at ha
    rcases ha with rfl | rfl | rfl <;>
      refine ⟨setupLaw_reset, memoryLaw_filling, acqLaw_filling, renderQueueLaw_filling, ?_⟩
    · exact ⟨_, _, by decide +kernel, rfl, rfl, rfl⟩
    · obtain ⟨f, c, hv⟩ := taken_of (keyFilling (.channel 4)) (channelEdit (keyFilling (.channel 4)) 4) (by decide +kernel)
      exact ⟨_, f, by decide +kernel, rfl, rfl, by decide, c, hv⟩
    · obtain ⟨f, c, hv⟩ := taken_of (keyFilling (.setField (.front 4) 1)) [(4, 1)] (by decide +kernel)
      exact ⟨_, f, by decide +kernel, rfl, rfl, c, hv⟩
  · obtain ⟨f, c, hv⟩ := taken_of (filling .posttrig 250 249) [(1, 7)] (by decide +kernel)
    refine ⟨setupLaw_reset, memoryLaw_filling, acqLaw_filling, renderQueueLaw_filling,
      { filling .posttrig 250 249 with panel := { State.reset.panel with
        encs := State.reset.panel.encs.mapIdx fun i x =>
          if i = 0 then { x with fast := fastRun State.reset 0 true, lastCw := true, ticks := 0 } else x } }, f,
      by decide +kernel, rfl, ⟨rfl, ?_⟩, 1, 7, c, ?_, hv, ?_⟩
    · intro i
      simp only [List.getElem?_mapIdx]
      rfl
    · show (7 : Int) = (filling .posttrig 250 249).fieldVal 1 + _
      decide +kernel
    · show (1 : Nat) = fieldNamed (filling .posttrig 250 249) (.front 1)
      decide +kernel
  · exact ⟨setupLaw_reset, by unfold MemoryLaw; decide +kernel, acqLaw_filling, renderQueueLaw_filling, _, _, rfl, rfl, _,
      3, rfl, rfl, rfl, by decide, by decide, by decide +kernel, by decide, rfl⟩

/-- R13, R14, R16: a change abandons the filling segment and waits for the front end; in STOP a length that leaves one slot
keeps the current segment at index 0; a VIEW field queues it again. -/
theorem test_change_edges :
    let write := fun s (ps : List (Nat × Int)) =>
      ask (.setupWrite .a) kindSetupWrite s ([0, 0] ++ ps.flatMap fun q => pairWords q.1 q.2)
    let run := write (filling .posttrig 250 249) [(1, 9)]
    let stop := write (withSegment 0 []) [(33, 13)]
    let view := write (withSegment 0 []) [(2, 10)]
    (run.acq.state, (run.acq.seg 0).state, run.acq.counter) = (.settling, .free, 0)
      ∧ ((stop.acq.seg 0).state, stop.setup.changed) = (.complete, [33])
      ∧ ((view.rend.render.map (·.seg)), view.setup.changed) = (some 0, [])
      ∧ (let part := { twoSegments with acq := { twoSegments.acq with mode := .run, state := .settling } }
        [(33, 13), (1, 9)].map (fun q => [0, 5].map fun i => ((write part [q]).acq.seg i).state)
          = [[.complete, .free], [.complete, .complete]]) := by decide +kernel

/-- A validated change of one field, what class it is of, and the channel that it asks for an update. -/
def changeShape (s : State) (id : Nat) (v : Int) : Option (Bool × Bool × Bool) :=
  match validate s.straps s.fieldVal [(id, v)] with
  | .ok (f, _) =>
    let alters := fun c => (presentIds s.straps).any fun i => decide (classOf s.straps i = some c ∧ f i ≠ s.fieldVal i)
    some (alters .acq, alters .view, ([0, 1, 3, 4] : List Nat).any fun q => decide (f q ≠ s.fieldVal q))
  | .error _ => none

theorem alters_of_shape (s : State) (id : Nat) (v : Int) (a b u : Bool) (h : changeShape s id v = some (a, b, u)) :
    ∃ f c, validate s.straps s.fieldVal [(id, v)] = .ok (f, c) ∧ (a = true ↔ AltersClass s f .acq)
      ∧ (b = true ↔ AltersClass s f .view) ∧ (u = true → UpdateAsked s f 1) := by
  unfold changeShape at h
  split at h
  · rename_i f c hv
    simp only [Option.some.injEq, Prod.mk.injEq] at h
    obtain ⟨rfl, rfl, rfl⟩ := h
    refine ⟨f, c, hv, ?_, ?_, ?_⟩
    · simp only [AltersClass, List.any_eq_true, decide_eq_true_eq]
    · simp only [AltersClass, List.any_eq_true, decide_eq_true_eq]
    · intro hu
      refine ⟨by decide, by split <;> decide, ?_⟩
      simp only [List.any_eq_true, decide_eq_true_eq] at hu
      simpa using hu
  · cases h

/-- R12, R15 to R17: a TIMING, a PANEL and a VIEW change alone, and one that asks channel 1 for an update. -/
theorem witness_OtherChanges :
    let s := filling .ready 250 0
    (∀ q ∈ ([(48, 1), (67, 2)] : List (Nat × Int)), ∃ f c, validate s.straps s.fieldVal [q] = .ok (f, c)
        ∧ ¬ AltersClass s f .acq ∧ ¬ AltersClass s f .view)
      ∧ (∃ f c, validate s.straps s.fieldVal [(2, 10)] = .ok (f, c) ∧ ¬ AltersClass s f .acq ∧ AltersClass s f .view)
      ∧ ∃ f c, validate s.straps s.fieldVal [(1, 9)] = .ok (f, c) ∧ AltersClass s f .acq ∧ UpdateAsked s f 1 := by
  refine ⟨?_, ?_, ?_⟩
  · intro q hq
    simp only [List.mem_cons, List.not_mem_nil, or_false] at hq
    rcases hq with rfl | rfl
    · obtain ⟨f, c, hv, ha, hb, -⟩ := alters_of_shape (filling .ready 250 0) 48 1 false false false (by decide +kernel)
      exact ⟨f, c, hv, by simpa using ha, by simpa using hb⟩
    · obtain ⟨f, c, hv, ha, hb, -⟩ := alters_of_shape (filling .ready 250 0) 67 2 false false false (by decide +kernel)
      exact ⟨f, c, hv, by simpa using ha, by simpa using hb⟩
  · obtain ⟨f, c, hv, ha, hb, -⟩ := alters_of_shape (filling .ready 250 0) 2 10 false true false (by decide +kernel)
    exact ⟨f, c, hv, by simpa using ha, hb.mp rfl⟩
  · obtain ⟨f, c, hv, ha, -, hu⟩ := alters_of_shape (filling .ready 250 0) 1 9 true false true (by decide +kernel)
    exact ⟨f, c, hv, ha.mp rfl, hu rfl⟩

/-- R12, R15, R17, R51, R80: TRIG_MODE to NORMAL stops the timer in READY; a change away from TRIG_OUT cuts the pulse off; a
scale makes an IDLE channel's frame go and gives one in flight a pending request; a VIEW field asks for nothing. -/
theorem test_told :
    let write := fun s (q : Nat × Int) => ask (.setupWrite .a) kindSetupWrite s ([0, 0] ++ pairWords q.1 q.2)
    let r := filling .ready 250 0
    let s := { r with trig := { r.trig with autoTimer := some 5 } }
    let out := write s (67, 0)
    let pulse := { out with trig := { out.trig with pulse := some 9 } }
    let idle := settledAt 0 0
    ((write s (48, 1)).trig.autoTimer, (write s (49, 7)).trig.autoTimer, (write s (49, 7)).trig.holdoff) = (none, some 5, 0)
      ∧ ((write pulse (67, 2)).trig.pulse, (write pulse (65, 0)).trig.pulse) = (none, some 9)
      ∧ (((write idle (1, 9)).fe.chan 1).upd, (write idle (1, 9)).fe.link.map (·.chan)) = (.awaitEcho, some 1)
      ∧ ((write (write idle (1, 9)) (1, 5)).fe.chan 1).pendingLatest = true
      ∧ (write idle (2, 10)).fe = idle.fe := by decide +kernel

theorem witness_LockAndUnlock : Offers (offer lockedByB .a kindLock [1]) .a kindLock [1]
    ∧ Offers (offer lockedByB .a kindUnlock []) .a kindUnlock [] := ⟨offers_offer _ _ _ _, offers_offer _ _ _ _⟩

/-- R22: LOCK and UNLOCK by each holder found. -/
theorem test_lock_edges :
    let mine := { State.reset with setup := { State.reset.setup with holder := some .a } }
    [State.reset, mine, lockedByB].map (fun s => codeOf (ask (.lock .a) kindLock s [1])) = [some 0, some 0, some 8]
      ∧ [State.reset, mine, lockedByB].map (fun s => codeOf (ask (.unlock .a) kindUnlock s [])) = [some 0, some 0, some 8]
      ∧ (ask (.lock .a) kindLock State.reset [1]).setup.localDisabled = true := by decide +kernel

theorem witness_ValidationDecides : (([(46, 5), (47, 5)] : List (Nat × Int)).map Prod.fst).Nodup
    ∧ State.reset.fieldVal fidWidthLow ≤ State.reset.fieldVal fidWidthHigh := by decide +kernel

/-- R7, R8: the values a change leaves: a clamp at both limits, a VIEW_LENGTH above RECORD_LENGTH, a VIEW_START cut to
N - V, SEGMENTS to K, a front channel that is not ON, and a width that draws the other. -/
theorem test_validation_values :
    ([([(2, -201)], 2), ([(2, 201)], 2), ([(56, 14)], 56), ([(57, 5000)], 57), ([(33, 13), (35, 7)], 35), ([(58, 2)], 58),
        ([(46, 2000)], 47), ([(47, 50)], 46), ([(46, 1000)], 47)] : List (List (Nat × Int) × Nat)).map (fun q =>
      match validate State.reset.straps State.reset.fieldVal q.1 with
      | .ok (f, c) => (f q.2, c)
      | .error _ => (-1, false))
      = [(-200, true), (200, true), (2, true), (0, true), (1, true), (1, true), (2000, false), (50, false), (1000, false)] := by
  decide +kernel

theorem witness_RecallChangeFormed : (([(1, 99), (0, 7), (65, 0), (7, 0)] : List (Nat × Int)).map Prod.fst).Nodup := by
  decide

/-- R9: a value clamped, a code outside its set, a PANEL field and an unknown id skipped, a field not named; widths out of
order; a slot that gives what is taken. -/
theorem test_recall_change :
    let cur : Nat → Int := fun i => if i = 65 then 1 else 5
    let c := recallChange State.reset.straps cur [(1, 99), (0, 7), (65, 0), (7, 0)]
    let w := recallChange State.reset.straps cur [(46, 9), (47, 8)]
    let r := recallChange State.reset.straps cur [(1, 3)]
    ([1, 0, 65, 7, 43].map c.1, c.2) = ([12, 1, 1, 5, 128], true)
      ∧ ([46, 47].map w.1, w.2) = ([9, 9], true) ∧ (r.1 1, r.2) = (3, false) := by decide +kernel

/-- R6, R8: refused for no field, for no code, for widths out of order; taken with widths equal. -/
theorem test_validation_edges :
    ([[(7, 0)], [(0, 2)], [(46, 6), (47, 5)], [(46, 5), (47, 5)], [(46, 2000)]] : List (List (Nat × Int))).map (fun ps =>
      match validate State.reset.straps State.reset.fieldVal ps with
      | .error e => some e
      | .ok _ => none)
      = [some (.badField, 7), some (.badValue, 0), some (.badValue, 47), none, none] := by decide +kernel

/-! ## Map writes, data in, and the beeper -/

theorem witness_DataInPhases :
    Offers (offer State.reset .a kindWriteKeymap [63, 1]) .a kindWriteKeymap [63, 1]
      ∧ (Instr.writeKeymap .a, kindWriteKeymap, 64) ∈ [(Instr.writeKeymap .a, kindWriteKeymap, 64),
        (Instr.writeKnobmap .a, kindWriteKnobmap, 8), (Instr.writeLedmap .a, kindWriteLedmap, 32)]
      ∧ Offers (offer State.reset .a kindWriteOverlay [0, 0, 800, 480]) .a kindWriteOverlay [0, 0, 800, 480] :=
  ⟨offers_offer _ _ _ _, by decide, offers_offer _ _ _ _⟩

/-- R47, R142: the edges of the ranges. An accepted data phase gives no response yet. -/
theorem test_dataIn_edges :
    codes (.writeKeymap .a) kindWriteKeymap State.reset [[0, 0], [0, 64], [63, 1], [63, 2]] = [some 6, none, none, some 6]
      ∧ codes (.writeKnobmap .a) kindWriteKnobmap State.reset [[0, 8], [7, 2]] = [none, some 6]
      ∧ codes (.writeLedmap .a) kindWriteLedmap State.reset [[0, 32], [31, 2]] = [none, some 6]
      ∧ codes (.writeOverlay .a) kindWriteOverlay State.reset
        [[0, 0, 800, 480], [0, 0, 801, 1], [0, 0, 0, 1], [0, 0, 1, 481], [0, 0, 1, 0]]
        = [none, some 6, some 6, some 6, some 6] := by decide +kernel

/-- A map write of PORT_A whose data has been taken. -/
def staged (kind : BitVec 8) (ws table : List Word) (failed : Option Nat) : State :=
  State.reset.updPort .a fun ps =>
    { ps with link := .executing, staged := some ⟨kind, ws, true⟩, table := some table, failed := failed }

theorem witness_DataInPhases_completion :
    ((staged kindWriteKeymap [0, 1] [12, 0, 0, 0] none).port .a).link = .executing
      ∧ ((staged kindWriteKeymap [0, 1] [12, 0, 0, 0] none).port .a).staged = some ⟨kindWriteKeymap, [0, 1], true⟩ :=
  ⟨rfl, rfl⟩

/-- R47, R48: a valid entry, an invalid one with its index, and a burst that failed, for each map. -/
theorem test_dataIn_completion :
    [staged kindWriteKeymap [0, 1] [12, 0, 0, 0] none, staged kindWriteKeymap [5, 1] [13, 0, 0, 0] none,
      staged kindWriteKnobmap [0, 1] [2, 6, 1000, 0xFC18] none, staged kindWriteKnobmap [0, 1] [2, 7, 0, 0] none,
      staged kindWriteLedmap [0, 1] [0x8006, 0, 0, 0] none, staged kindWriteLedmap [0, 1] [7, 0, 0, 0] none,
      staged kindWriteOverlay [0, 0, 1, 1] [] none, staged kindWriteKeymap [0, 1] [12, 0, 0, 0] (some 1)].map (fun s =>
        (codeOf (after (.dataInCompletion .a) s), results (after (.dataInCompletion .a) s)))
      = [(some 0, []), (some 6, [5]), (some 0, []), (some 6, [0]), (some 0, []), (some 6, [0]), (some 0, []),
        (some 16, [1])] := by decide +kernel

/-- R170: the largest burst number that a result word holds. -/
theorem test_burst_word : results (after (.dataInCompletion .a) (staged kindWriteKeymap [0, 1] [] (some 65535))) = [65535]
    ∧ burstWord 65536 = Config.wideBurst 65536 := ⟨by decide +kernel, rfl⟩

theorem witness_BeepSounds : Offers (offer State.reset .a kindBeep [100, 5000]) .a kindBeep [100, 5000] :=
  offers_offer _ _ _ _

/-- R46: the edges of both ranges; an error tone that sounds goes on. -/
theorem test_beep_edges :
    codes (.beep .a) kindBeep State.reset [[100, 1], [99, 1], [10000, 5000], [10001, 1], [100, 0], [100, 5001]]
      = [some 0, some 1, some 0, some 1, some 1, some 1]
      ∧ (ask (.beep .a) kindBeep State.reset [99, 5001]).panel.tone = .error 100 5000000000
      ∧ (ask (.beep .a) kindBeep (State.reset.setTone (.error 1000 7)) [99, 1]).panel.tone = .error 1000 7 := by
  decide +kernel

/-! ## Run control and segments -/

theorem witness_RunControlRequests :
    MemoryLaw (offer (filling .ready 250 0) .a kindRunControl [3])
      ∧ Offers (offer (filling .ready 250 0) .a kindRunControl [3]) .a kindRunControl [3]
      ∧ Offers (offer (filling .ready 250 0) .a kindRunControl [4]) .a kindRunControl [4] :=
  ⟨memoryLaw_filling, offers_offer _ _ _ _, offers_offer _ _ _ _⟩

theorem unsettled : ¬ FrontSettled (offer (withSegment 0 []) .a kindRunControl [3]) := by
  intro h
  have := (h 1 (by decide) (by decide) (by decide +kernel)).1
  revert this
  decide

/-- R83, R100: SEQUENCE from STOP frees a COMPLETE segment that no port holds, and leaves one that a port holds. -/
theorem witness_ModeSet :
    let s := offer (withSegment 0 []) .a kindRunControl [3]
    let h := offer (withSegment 1 [⟨0, false⟩]) .a kindRunControl [3]
    ModeSet s (after (.runControl .a) s) .sequence ∧ ((after (.runControl .a) s).acq.seg 0).state = .free
      ∧ ((after (.runControl .a) h).acq.seg 0).state = .complete := by
  refine ⟨⟨by decide +kernel, ?_, ?_, ?_, ?_, ?_, ?_, ?_, ?_, ?_, ?_⟩, by decide +kernel, by decide +kernel⟩
  · constructor <;> decide +kernel
  · decide +kernel
  · decide +kernel
  · rintro ⟨⟩
  · exact fun _ _ => ⟨by decide +kernel, fun _ => by decide +kernel, fun h => absurd h unsettled⟩
  iterate 4
    · intro h
      rcases h with h | h <;> cases h
  · have segs : (after (.runControl .a) (offer (withSegment 0 []) .a kindRunControl [3])).acq.segs = [] := by
      decide +kernel
    refine fun _ => ⟨by decide +kernel, by decide +kernel, by decide +kernel,
      ⟨fun _ => by decide +kernel, fun h => absurd h unsettled⟩, fun _ => by decide +kernel, fun h => absurd rfl h,
      fun j hj => ?_⟩
    unfold Acq.seg
    rw [segs]
    cases j with
    | zero => decide
    | succ j => cases hj

/-- R83, R101, R106: STOP frees the filling segment; SEQUENCE passes through STOP; RUN lets it fill on; in STOP, RUN arms. -/
theorem test_modes :
    [0, 1, 3].map (fun m =>
        let t := ask (.runControl .a) kindRunControl (filling .pretrig 1 0) [m]
        (t.acq.state, (t.acq.seg 0).state, t.portB.queue))
      = [(.stopped, .free, [.runState .stop]), (.pretrig, .filling, [.runState .run]),
        (.settling, .free, [.runState .stop, .runState .sequence])]
      ∧ (ask (.runControl .a) kindRunControl stopped [1]).acq.state = .settling := by decide +kernel

/-- R71, R83, R87, R101: STOP leaves the other segments and clears the tracking state; RUN frees the member that nothing
keeps, and not the current segment or a held one. -/
theorem test_mode_segments :
    let inMode := fun (m : RunMode) (l : List Nat) (n : Nat) => { twoSegments with
      trig := { twoSegments.trig with lowSeen := true, ext := .low }
      acq := { twoSegments.acq with
        mode := m, state := .settling, seqList := l
        segs := twoSegments.acq.segs.map fun c => if c.1 = 5 then (5, { c.2 with holdsA := n }) else c } }
    let go := fun v s => ask (.runControl .a) kindRunControl s [v]
    let stop := go 0 (inMode .run [] 0)
    ([0, 5].map fun i => (stop.acq.seg i).state, stop.trig.lowSeen, stop.trig.ext) = ([.complete, .complete], false, .none)
      ∧ [0, 1].map (fun n => [0, 5].map fun i => ((go 1 (inMode .sequence [0, 5] n)).acq.seg i).state)
        = [[.complete, .free], [.complete, .complete]] := by decide +kernel

/-- R83, R184: modes 0 to 3, a value above 4, the lock, and 4, which is the other command's. -/
theorem test_runControl_edges :
    codes (.runControl .a) kindRunControl State.reset [[0], [1], [2], [3], [4], [5]]
      = [some 0, some 0, some 0, some 0, none, some 6]
      ∧ codes (.runControl .a) kindRunControl lockedByB [[0]] = [some 8]
      ∧ (ask (.runControl .a) kindRunControl State.reset [0]).acq.mode = .stop := by decide +kernel

/-- R76: remembered in PRETRIG, taken in READY, nothing otherwise. -/
theorem test_force :
    [filling .pretrig 1 0, filling .ready 250 0, State.reset].map (fun s =>
      let t := ask (.runControlForce .a) kindRunControl s [4]
      (t.trig.forced, t.acq.state)) = [(true, .pretrig), (false, .posttrig), (false, .settling)] := by decide +kernel

theorem witness_HoldAndRelease :
    MemoryLaw (offer (withSegment 0 []) .a kindHold [0])
      ∧ Offers (offer (withSegment 0 []) .a kindHold [0]) .a kindHold [0]
      ∧ Offers (offer (withSegment 0 []) .a kindRelease [0]) .a kindRelease [0] :=
  ⟨memoryLaw_withSegment, offers_offer _ _ _ _, offers_offer _ _ _ _⟩

/-- R102: a COMPLETE segment, a FREE one, an index above 1999, CURRENT, and the fifth hold. -/
theorem test_hold_edges :
    codes (.hold .a) kindHold (withSegment 0 []) [[0], [1], [1999], [2000], [0xFFFF]]
      = [some 0, some 10, some 10, some 6, some 0]
      ∧ codes (.hold .a) kindHold (withSegment 4 (List.replicate 4 ⟨0, false⟩)) [[0]] = [some 11]
      ∧ codes (.release .a) kindRelease (withSegment 1 [⟨0, false⟩]) [[0], [1], [2000]] = [some 0, some 10, some 6]
      ∧ results (ask (.hold .a) kindHold (withSegment 1 [⟨0, false⟩]) [0]) = [0, 2] := by decide +kernel

theorem witness_DataOutBegins :
    MemoryLaw (offer (withSegment 0 []) .a kindReadWaveform [0, 1, 0, 0, 0, 500])
      ∧ Offers (offer (withSegment 0 []) .a kindReadWaveform [0, 1, 0, 0, 0, 500]) .a kindReadWaveform [0, 1, 0, 0, 0, 500]
      ∧ Offers (offer State.reset .a kindReadScreen []) .a kindReadScreen [] :=
  ⟨memoryLaw_withSegment, offers_offer _ _ _ _, offers_offer _ _ _ _⟩

/-- R103: all of it, one sample past the end, the last sample, no channel 0 or 5, a channel not enabled, no count. -/
theorem test_readWaveform_edges :
    codes (.readWaveform .a) kindReadWaveform (withSegment 0 [])
      [[0, 1, 0, 0, 0, 500], [0, 1, 0, 0, 0, 501], [0, 1, 0, 499, 0, 1], [0, 1, 0, 500, 0, 1], [0, 0, 0, 0, 0, 1],
        [0, 5, 0, 0, 0, 1], [0, 2, 0, 0, 0, 1], [0, 1, 0, 0, 0, 0], [1, 1, 0, 0, 0, 1], [2000, 1, 0, 0, 0, 1]]
      = [some 0, some 1, some 0, some 6, some 6, some 6, some 6, some 6, some 10, some 6]
      ∧ codes (.readWaveform .a) kindReadWaveform (withSegment 4 (List.replicate 4 ⟨0, false⟩)) [[0, 1, 0, 0, 0, 1]]
        = [some 11]
      ∧ results (ask (.readScreen .a) kindReadScreen State.reset []) = [800, 480, 5, 56320] := by decide +kernel

/-- The records of the part with two segments. -/
theorem seg_twoSegments (i : Nat) : twoSegments.acq.seg i
    = if i = 0 then { Seg.blank with state := .complete, snap := some 0, seq := 7, p := 250, current := true }
      else if i = 5 then { Seg.blank with state := .complete, snap := some 0, seq := 8, p := 250 }
      else Seg.blank := by
  match i with
  | 0 | 1 | 2 | 3 | 4 | 5 => rfl
  | n + 6 => rfl

theorem acqLaw_twoSegments : AcqLaw twoSegments := by
  refine ⟨by decide, ⟨?_, fun h => absurd h (by decide)⟩, ?_, ?_, ?_⟩
  · rintro ⟨i, hi⟩
    simp only [seg_twoSegments] at hi
    split at hi <;> [skip; split at hi] <;> simp [Seg.blank] at hi
  · intro i j hi
    simp only [seg_twoSegments] at hi
    split at hi <;> [skip; split at hi] <;> simp [Seg.blank] at hi
  · intro i j hi hj
    simp only [seg_twoSegments] at hi hj
    split at hi <;> [skip; split at hi] <;> simp [Seg.blank] at hi
    split at hj <;> [skip; split at hj] <;> simp [Seg.blank] at hj
    omega
  · intro i hi
    simp only [seg_twoSegments] at hi ⊢
    split at hi <;> [skip; split at hi] <;> simp_all [Seg.blank]

theorem renderQueueLaw_twoSegments : RenderQueueLaw twoSegments := by
  refine ⟨by decide, by decide, ?_, ?_, ?_, fun _ => ⟨rfl, rfl⟩⟩
  · rintro i (h | ⟨r, h, -⟩) <;> cases h
  · intro i
    simp only [seg_twoSegments]
    split <;> [skip; split] <;> simp [Seg.blank]
  · rintro r h
    cases h

/-- Segment 5 shown while segment 0 is current and nothing keeps it. -/
theorem witness_ShowSegmentAndClearDisplay :
    let s := offer twoSegments .a kindShowSegment [5]
    MemoryLaw s ∧ Offers s .a kindShowSegment [5] ∧ s.acq.state = .stopped ∧ 5 < s.slots ∧ AcqLaw s
      ∧ RenderQueueLaw s ∧ s.acq.segChannels (s.acq.seg 5) ≠ [] ∧ (s.acq.seg 0).current = true
      ∧ ¬ (0 < (s.acq.seg 0).holdsA + (s.acq.seg 0).holdsB ∨ (0 < s.slots ∧ 0 ∈ s.acq.seqList))
      ∧ (s.acq.seg 0).pending = false
      ∧ Offers (offer State.reset .a kindClearDisplay []) .a kindClearDisplay [] :=
  ⟨by unfold MemoryLaw; decide +kernel, offers_offer _ _ _ _, rfl, by decide +kernel, acqLaw_twoSegments,
    renderQueueLaw_twoSegments, by decide +kernel, rfl, by decide +kernel, rfl, offers_offer _ _ _ _⟩

/-- R105: shown, a FREE segment, an index above 1999, not stopped, locked. -/
theorem test_showSegment_edges :
    codes (.showSegment .a) kindShowSegment (withSegment 0 []) [[0], [1999], [2000]] = [some 0, some 10, some 6]
      ∧ codes (.showSegment .a) kindShowSegment State.reset [[0]] = [some 9]
      ∧ codes (.showSegment .a) kindShowSegment lockedByB [[0]] = [some 8]
      ∧ (ask (.showSegment .a) kindShowSegment (withSegment 0 []) [0]).rend.render.map (·.seg) = some 0
      ∧ (let t := ask (.showSegment .a) kindShowSegment twoSegments [5]
        ((t.acq.seg 0).state, (t.acq.seg 5).current)) = (.free, true)
      ∧ codes (.clearDisplay .a) kindClearDisplay State.reset [[]] = [some 0]
      ∧ codes (.clearDisplay .a) kindClearDisplay lockedByB [[]] = [some 8] := by decide +kernel

/-- R87, R115, R125: CLEAR abandons the render in flight; its segment stays while it is current and is freed where nothing
keeps it, with the queue left to go on. -/
theorem test_clear_render :
    let part := fun (cur : Bool) => { twoSegments with
      acq := { twoSegments.acq with
        segs := [(0, { twoSegments.acq.seg 0 with pending := true, current := cur }),
          (5, { twoSegments.acq.seg 5 with pending := true })] }
      rend := { Renderer.initial with
        rasters := [(7, 255)], queue := [5], render := some ⟨0, 0, 500, 1, [⟨1, 0, false⟩], 0, 9, some 399, 10⟩ } }
    let clear := fun cur => ask (.clearDisplay .a) kindClearDisplay (part cur) []
    [true, false].map (fun cur => [0, 5].map fun i => ((clear cur).acq.seg i).state)
        = [[.complete, .complete], [.free, .complete]]
      ∧ ((clear true).rend.render.map (·.seg), (clear true).rend.queue, (clear true).rend.rasters) = (some 5, [], [])
      ∧ ((clear true).acq.seg 0).pending = false := by decide +kernel

/-! ## Overlays -/

theorem witness_FillOverlayAndPalette :
    MemoryLaw (offer State.reset .a kindFillOverlay [799, 479, 1, 1, 15])
      ∧ Offers (offer State.reset .a kindFillOverlay [799, 479, 1, 1, 15]) .a kindFillOverlay [799, 479, 1, 1, 15]
      ∧ Offers (offer State.reset .a kindWritePalette [15, 1, 7]) .a kindWritePalette [15, 1, 7]
      ∧ ([15, 1, 7] : List Word).length = parNat [15, 1, 7] 1 + 2 :=
  ⟨memoryLaw_reset, offers_offer _ _ _ _, offers_offer _ _ _ _, rfl⟩

/-- R143, R144: sizes, the index, the run of entries; a rectangle half off the plane. -/
theorem test_overlay_edges :
    codes (.fillOverlay .a) kindFillOverlay State.reset
      [[0, 0, 1, 1, 15], [0, 0, 1, 1, 16], [0, 0, 0, 1, 1], [0, 0, 801, 1, 1], [0, 0, 1, 0, 1], [0, 0, 1, 481, 1]]
      = [some 0, some 6, some 6, some 6, some 6, some 6]
      ∧ (ask (.fillOverlay .a) kindFillOverlay State.reset [0xFFFF, 479, 2, 2, 9]).comp.ovA.plane = [(383200, 9)]
      ∧ codes (.writePalette .a) kindWritePalette State.reset [[15, 1, 7], [15, 2, 7, 7], [0, 0]]
        = [some 0, some 6, some 6]
      ∧ (ask (.writePalette .a) kindWritePalette State.reset [15, 1, 7]).comp.ovA.palette.getD 15 0 = 7 := by
  decide +kernel

/-! ## Saved setups -/

/-- A SAVE_SETUP's parameters: slot, length, and "BENCH 1" in 16 name words. -/
def benchOne (slot len : Word) : List Word :=
  [slot, len, 0x4245, 0x4E43, 0x4820, 0x3100] ++ List.replicate 12 0

/-- R153: slots 0, 1, 16, 17; lengths 16, 17, 32, 33; a store that is not IDLE. -/
theorem test_saveSetup_edges :
    codes (.saveSetup .a) kindSaveSetup (quiet State.reset) [benchOne 0 7, benchOne 1 7, benchOne 16 7, benchOne 17 7]
      = [some 6, some 0, some 0, some 6]
      ∧ codes (.saveSetup .a) kindSaveSetup (quiet State.reset)
        [benchOne 5 8, benchOne 5 17, benchOne 5 32, benchOne 5 33] = [some 1, some 1, some 1, some 6]
      ∧ codes (.saveSetup .a) kindSaveSetup State.reset [benchOne 5 7] = [some 12] := by decide +kernel

/-- R153, R187: 52 pairs, the timestamp 1,200 and the name "BENCH 1" with 9 spaces (the manual's example). -/
theorem test_saveSetup_example :
    let s := quiet { State.reset with store := { State.reset.store with clock := 1200 } }
    let b := (ask (.saveSetup .a) kindSaveSetup s (benchOne 5 7)).store.buffer
    b.take 15 = [1, 5, 0x4245, 0x4E43, 0x4820, 0x3120, 0x2020, 0x2020, 0x2020, 0x2020, 0, 1200, 0, 4, 52]
      ∧ b.length = 15 + 3 * 52 ∧ (b.drop 15).take 6 = [0, 0, 1, 1, 0, 8] := by decide +kernel

theorem witness_StoreRequests :
    Offers (offer (quiet State.reset) .a kindSaveSetup [5, 7]) .a kindSaveSetup [5, 7]
      ∧ Offers (offer State.reset .a kindRecallSetup [1]) .a kindRecallSetup [1]
      ∧ Offers (offer State.reset .a kindEraseSetup [1]) .a kindEraseSetup [1]
      ∧ Offers (offer State.reset .a kindSetStartup [1]) .a kindSetStartup [1]
      ∧ Offers (offer State.reset .a kindListSetups []) .a kindListSetups []
      ∧ Offers (offer State.reset .a kindSetClock [0, 9]) .a kindSetClock [0, 9] :=
  ⟨offers_offer _ _ _ _, offers_offer _ _ _ _, offers_offer _ _ _ _, offers_offer _ _ _ _, offers_offer _ _ _ _,
    offers_offer _ _ _ _⟩

/-- R155, R157 to R160: slots and their edges, EMPTY, VALID and CORRUPT, a store that is not IDLE, the lock. -/
theorem test_store_edges :
    let s := quiet State.reset
    let slotIs := fun st : DirState => { s with store := s.store.setEntry 1 { DirEntry.initial with state := st } }
    codes (.recallSetup .a) kindRecallSetup s [[0], [1], [16], [17]] = [some 6, some 13, some 13, some 6]
      ∧ [DirState.empty, .valid, .corrupt].map (fun st => codeOf (ask (.recallSetup .a) kindRecallSetup (slotIs st) [1]))
        = [some 13, some 0, some 14]
      ∧ codes (.recallSetup .a) kindRecallSetup (quiet lockedByB) [[1]] = [some 8]
      ∧ codes (.recallSetup .a) kindRecallSetup State.reset [[1]] = [some 12]
      ∧ codes (.eraseSetup .a) kindEraseSetup s [[0], [1], [16], [17]] = [some 6, some 0, some 0, some 6]
      ∧ codes (.eraseSetup .a) kindEraseSetup State.reset [[1]] = [some 12]
      ∧ codes (.setStartup .a) kindSetStartup s [[0], [16], [17]] = [some 0, some 0, some 6]
      ∧ codes (.setStartup .a) kindSetStartup State.reset [[0]] = [some 12]
      ∧ codes (.listSetups .a) kindListSetups s [[]] = [some 0]
      ∧ codes (.listSetups .a) kindListSetups State.reset [[]] = [some 12]
      ∧ (ask (.setClock .a) kindSetClock s [1, 9]).store.clock = 65545
      ∧ codes (.setClock .a) kindSetClock State.reset [[0, 9]] = [some 12] := by decide +kernel

theorem witness_WriteStages :
    MemoryLaw (working .erasing .save false [1, 3]) ∧ (working .erasing .save false [1, 3]).store.op
      = some ⟨.save, some 3, .port .a, false⟩ := ⟨memoryLaw_reset, rfl⟩

/-- R154: sector 3 begins at word 6144. The mark, the erase with an upset, the record with its CRC word, and a word past
the sector that no access names. -/
theorem test_stages :
    (after .firstWordMarkEnd (working .erasing .save false [])).store.flash = [(6144, 0)]
      ∧ (after (.eraseEnd [(2047, 5), (2048, 6)]) (working .erasing .save true [])).store.flash = [(8191, 5)]
      ∧ (after (.eraseEnd []) (working .erasing .save true [])).store.state = .programming
      ∧ (after (.eraseEnd []) (working .erasing .erase true [])).store.state = .verifying
      ∧ (after (.programEnd []) (working .programming .save false [])).store.flash = [(6144, 0xB3C5)]
      ∧ (after (.programEnd []) State.reset).store.state = .scanning := by decide +kernel

/-- An erase at its verify. -/
def erased : State := working .verifying .erase false []

theorem witness_VerifyEnds :
    erased.store.state = .verifying ∧ erased.store.op = some ⟨.erase, some 3, .port .a, false⟩ ∧ OpKind.erase ≠ .recall
      ∧ OpKind.erase ≠ .scan ∧ erased.store.dir.length = 16 ∧ (1 ≤ 3 ∧ 3 ≤ 16) :=
  ⟨rfl, rfl, by decide, by decide, rfl, by decide⟩

/-- R154, R157, R158: a clean erase ends EMPTY, a spoilt one CORRUPT and WRITE_FAILED; a startup record of slot 16 is
taken, one of slot 17 is not; a save's record reads good by its own CRC. -/
theorem test_verify :
    (after (.verifyEnd []) erased).portA.queue = [.storeDone .erase 3 .ok]
      ∧ (after (.verifyEnd [(2047, 0)]) erased).portB.queue = [.storeDone .erase 3 .writeFailed]
      ∧ ((after (.verifyEnd [(0, 0)]) erased).store.entry 3).state = .corrupt
      ∧ [16, 17].map (fun n => (after (.verifyEnd []) (after (.programEnd [])
          (working .programming .startup false [1, n]))).store.startup) = [3, 0]
      ∧ ((after (.verifyEnd []) (after (.programEnd []) (working .programming .save false
          ([1, 3] ++ List.replicate 12 0x2020 ++ [0])))).store.entry 3).state = .valid
      ∧ ((after (.verifyEnd [(5, 0)]) (after (.programEnd []) (working .programming .save false
          ([1, 3] ++ List.replicate 12 0x2020 ++ [0])))).store.entry 3).state = .corrupt := by decide +kernel

/-- The scan at its last two sectors. -/
def scanning (n : Nat) : State := { State.reset with store := { State.reset.store with scanAt := n } }

theorem witness_ScanReadsSectors :
    ∀ n ∈ [1, 16, 17], (scanning n).store.state = .scanning
      ∧ (scanning n).store.dir.length = 16 ∧ 1 ≤ (scanning n).store.scanAt ∧ (scanning n).store.scanAt ≤ 17 := by
  decide +kernel

/-- R150, R151: an erased sector is EMPTY, one marked 0x0000 CORRUPT; the startup sector ends the scan. -/
theorem test_scan :
    ((after (.scanSectorReadEnd []) (scanning 16)).store.entry 16).state = .empty
      ∧ ((after (.scanSectorReadEnd [(0, 0)]) (scanning 16)).store.entry 16).state = .corrupt
      ∧ (after (.scanSectorReadEnd []) (scanning 16)).store.state = .scanning
      ∧ (after (.scanSectorReadEnd []) (scanning 16)).store.op = some ⟨.scan, none, .start, false⟩
      ∧ ((after (.scanSectorReadEnd []) (scanning 17)).store.state, (after (.scanSectorReadEnd []) (scanning 17)).store.op)
        = (.idle, none) := by decide +kernel

theorem witness_RecallEnds :
    SetupLaw (working .reading .recall false []) ∧ (working .reading .recall false []).store.state = .reading
      ∧ (working .reading .recall false []).store.op = some ⟨.recall, some 3, .port .a, false⟩
      ∧ (working .reading .recall false []).store.dir.length = 16 ∧ (1 ≤ 3 ∧ 3 ≤ 16) :=
  ⟨setupLaw_reset, rfl, rfl, rfl, by decide⟩

/-- R156: a record of no pairs recalls the defaults, OK; a bad record ends SLOT_CORRUPT; a lock that stands, LOCKED. -/
theorem test_recall :
    let flash := (after (.programEnd []) (working .programming .save false
      ([1, 3] ++ List.replicate 12 0x2020 ++ [0]))).store.flash
    let s := working .reading .recall false []
    let good := { s with store := { s.store with flash := flash } }
    let locked := { good with setup := { good.setup with holder := some .b } }
    [good, s, locked].map (fun s => (after (.recallReadEnd []) s).portA.queue)
      = [[.storeDone .recall 3 .ok], [.storeDone .recall 3 .slotCorrupt], [.storeDone .recall 3 .locked]] := by
  decide +kernel

/-! ## Notices and timers -/

theorem witness_NoticeTaken : QueueLaw [Notice.panelKnob 6 127, .segmentDone 0 1 false 65535, .feFault 1] := by
  refine ⟨by decide, ?_⟩
  simp [sameKey]

/-- R175, R176: coalesced at the ends of its counts, added, and discarded with LOST at 64. -/
theorem test_notice_edges :
    let ps := { PortState.initial with queue := [Notice.panelKnob 6 127, .segmentDone 0 1 false 65535] }
    let full := { PortState.initial with queue := List.replicate 64 (Notice.feFault 1) }
    (ps.takeNotice (.panelKnob 6 1)).queue.head? = some (.panelKnob 6 127)
      ∧ (ps.takeNotice (.segmentDone 3 2 true 0)).queue.getLast? = some (.segmentDone 3 2 true 65535)
      ∧ (ps.takeNotice (.panelKnob 5 1)).queue.length = 3
      ∧ (full.takeNotice (.feFault 2)).lost = true ∧ (full.takeNotice (.feFault 2)).queue = full.queue
      ∧ ({ full with noticeMask := 0x7F }.takeNotice (.feFault 2)).lost = false := by decide +kernel

/-- R42: 130 counts clockwise and 5 back leave +122 (the manual's example). -/
theorem test_knob_count :
    ((List.replicate 130 (1 : Int) ++ List.replicate 5 (-1)).foldl
      (fun (ps : PortState) c => ps.takeNotice (.panelKnob 6 c)) PortState.initial).queue = [.panelKnob 6 122] := by decide +kernel

theorem witness_TimerExpiries : MemoryLaw (filling .ready 250 0) ∧ (0 : Nat) < State.reset.panel.leds.length :=
  ⟨memoryLaw_filling, by decide⟩

/-- R75, R44: an AUTO trigger flags its segment; LED 0 (RUN) is driven for 17 × 12 counts in RUN. -/
theorem test_auto_and_led :
    let s := { filling .ready 250 0 with trig := { (filling .ready 250 0).trig with autoTimer := some 1 } }
    ((after .autoTimerExpiry s).acq.state = .posttrig ∧ ((after .autoTimerExpiry s).acq.seg 0).auto = true)
      ∧ (after .autoTimerExpiry (filling .ready 250 0)).acq.state = .ready
      ∧ [0, 1, 31].map (fun l => (after (.ledPwmPeriod l) State.reset).panel.leds.getD l 9) = [204, 0, 0] := by
  decide +kernel

/-! ## The panel -/

/-- R27: key 5 bounces, and is accepted at the fifth scan (the manual's example). -/
theorem test_debounce :
    let scan := fun s raw => after (.scanTick (if raw = true then 32 else 0) 0 0) s
    ([true, false, true, true, true, true].foldl (fun (a : State × List (Nat × Bool)) raw =>
      let t := scan a.1 raw
      (t, a.2 ++ [((t.panel.keys.getD 5 ⟨false, 9⟩).count, (t.panel.keys.getD 5 ⟨false, 9⟩).pressed)])) (State.reset, [])).2
      = [(1, false), (0, false), (1, false), (2, false), (0, true), (0, true)] := by decide +kernel

/-- R38: the partial counts of the manual's example, and its detent. -/
theorem test_decoder :
    ([(false, true), (true, true), (false, true), (true, true), (true, false), (true, true), (true, false),
      (false, false), (false, true), (true, true)].foldl (fun (a : EncRec × List Int × List (Option Bool)) l =>
        let r := a.1.scan l
        (r.1, a.2.1 ++ [r.1.part], a.2.2 ++ [r.2])) ((EncRec.initial.scan (false, false)).1, [], [])).2
      = ([1, 2, -1, 1, 2, -1, 1, 2, 3, 0], List.replicate 9 none ++ [some true]) := by decide +kernel

theorem witness_ScanTick : State.reset.panel.due = []
    ∧ ({ State.reset.panel with due := [.press 63, .detent 7 true] }).due = .press 63 :: [.detent 7 true] := ⟨rfl, rfl⟩

/-- R26, R27: what a scan tick yielded is taken before the next tick's samples: key 63 (REPORT), then the encoder's lines. -/
theorem test_due :
    let s := { State.reset with panel := { State.reset.panel with due := [.press 63, .detent 7 true] } }
    let t := after (.scanTick 0 0 0) s
    (t.portA.queue, t.panel.due, (t.panel.enc 7).ticks) = ([.panelKey 63 true, .panelKnob 7 1], [], 1) := by
  decide +kernel

theorem witness_KeyEvents : SetupLaw State.reset ∧ MemoryLaw State.reset ∧ (0 : Nat) < keysScanned State.reset.straps :=
  ⟨setupLaw_reset, memoryLaw_reset, by decide⟩

/-- A reset state whose key 0 has an action. -/
def keyed (s : State) (a : KeyAction) : State :=
  { quiet s with panel := { s.panel with keymap := a :: s.panel.keymap.drop 1 } }

/-- R28 to R36: key 63 is scanned on panel L and key 48 is not on panel S; the tones of an action taken and of one that a
lock refuses. -/
theorem test_key_edges :
    (after (.keyPress 63) State.reset).portA.queue = [.panelKey 63 true]
      ∧ (after (.keyRelease 63) State.reset).portB.queue = [.panelKey 63 false]
      ∧ (after (.keyPress 48) (State.resetWith ⟨.two, .tenMillion, .s⟩ [])).portA.queue = []
      ∧ (after (.keyPress 47) (State.resetWith ⟨.two, .tenMillion, .s⟩ [])).portA.queue = [.panelKey 47 true]
      ∧ [KeyAction.none, .runStop, .single, .clear, .setField (.front 4) 1, .channel 4].map (fun a =>
          ((after (.keyPress 0) (keyed State.reset a)).panel.tone, (after (.keyPress 0) (keyed lockedByB a)).panel.tone))
        = (.click 4000 5000000, .click 4000 5000000)
          :: List.replicate 5 (.click 4000 5000000, .error 1000 150000000)
      ∧ (after (.keyPress 0) (keyed State.reset (.save 2))).store.state = .erasing
      ∧ ((after (.keyPress 0) (keyed State.reset (.save 2))).store.buffer.drop 10).take 8 = [0, 0, 2, 4, 52, 0, 0, 1]
      ∧ (after (.keyPress 0) (keyed lockedByB .localKey)).setup.holder = none := by decide +kernel

/-- R34: SET_FIELD(FRONT(4), 1) with FRONT_CHANNEL 2 sets CH2_BWLIMIT, id 12 (the manual's example). -/
theorem test_setField_front :
    let s := ask (.setupWrite .a) kindSetupWrite State.reset ([0, 0] ++ pairWords 8 1 ++ pairWords 58 2)
    let t := after (.keyPress 0) (keyed s (.setField (.front 4) 1))
    (t.fieldVal 12, t.fieldVal 4, t.setup.gen) = (1, 0, 3) := by decide +kernel

theorem witness_DetentTurns : SetupLaw State.reset ∧ (7 : Nat) < encodersScanned State.reset.straps :=
  ⟨setupLaw_reset, by decide⟩

/-- R25, R40, R42: knob 0 moves CH1_SCALE by -1; knob 7 reports; knob 4 takes the accelerated step 8 at the fourth fast
detent; an encoder that is not scanned yields none. -/
theorem test_detents :
    (after (.detent 0 true) State.reset).fieldVal 1 = 7
      ∧ (after (.detent 7 false) State.reset).portA.queue = [.panelKnob 7 (-1)]
      ∧ ((List.range 5).foldl (fun s _ => after (.detent 4 true) s) State.reset).fieldVal 43 = 128 + 1 + 1 + 1 + 1 + 8
      ∧ (after (.detent 8 true) State.reset).panel.encs = State.reset.panel.encs
      ∧ (after (.detent 0 true) lockedByB).fieldVal 1 = 8 := by decide +kernel

/-! ## The front end -/

/-- A powered part with its first frame in flight, at an attempt of channel 1. -/
def inFlight (attempt : Nat) : State :=
  let s := after (.powerOnReset ⟨.four, .tenMillion, .l⟩ 0 []) State.reset
  { s with fe := s.fe.updChan 1 fun c => { c with attempt := attempt } }

/-- R52, R186: the first frame has tag 1, channel 1, ×1, gain code 8, DC and FULL. -/
theorem test_first_frame : (inFlight 1).fe.link = some ⟨1, 0x1100⟩ := by decide +kernel

theorem witness_FrontEndEvents :
    MemoryLaw (inFlight 1) ∧ (inFlight 1).fe.link = some ⟨1, 0x1100⟩
      ∧ (∃ c, (inFlight 1).fe.chans[1 - 1]? = some c ∧ c.attempt = 1) ∧ (∃ c, (inFlight 2).fe.chans[1 - 1]? = some c ∧ c.attempt = 2)
      ∧ (0x2100 : Word).extractLsb' 12 4 ≠ (0x1100 : Word).extractLsb' 12 4
      ∧ (0x1103 : Word).extractLsb' 2 10 = (0x1100 : Word).extractLsb' 2 10
      ∧ (0x1104 : Word).extractLsb' 2 10 ≠ (0x1100 : Word).extractLsb' 2 10 := by
  refine ⟨memoryLaw_reset, by decide +kernel, ?_, ?_, by decide, by decide, by decide⟩
  · exact ⟨_, rfl, by decide +kernel⟩
  · exact ⟨_, rfl, by decide +kernel⟩

/-- R53 to R57: a stray, an equal echo with its ignored bits set, an unequal one, and the second mismatch. -/
theorem test_echoes :
    let rec1 := fun s : State => (s.fe.chan 1)
    (after (.echo 0x2100) (inFlight 1)) = inFlight 1
      ∧ (rec1 (after (.echo 0x1103) (inFlight 1))).settle = some 5000000
      ∧ (rec1 (after (.echo 0x1104) (inFlight 1))).attempt = 2
      ∧ (after (.echo 0x1104) (inFlight 1)).fe.link = some ⟨1, 0x2100⟩
      ∧ (after .echoTimeout (inFlight 2)).portA.queue = [.feFault 1]
      ∧ (rec1 (after .echoTimeout (inFlight 2))).fault = true
      ∧ (rec1 (after (.settleExpiry 1) (after (.echo 0x1100) (inFlight 1)))).settle = none
      ∧ after (.settleExpiry 5) (inFlight 1) = inFlight 1
      ∧ (after (.echo 0x1100) (inFlight 1)).fe.link = some ⟨2, 0x2500⟩ := by decide +kernel

/-! ## Samples -/

theorem witness_KeptSample :
    MemoryLaw (filling .pretrig 0 0) ∧ (filling .pretrig 0 0).acq.fillingIdx = some 0
      ∧ 250 < (filling .pretrig 0 0).acq.segLength ((filling .pretrig 0 0).acq.seg 0) :=
  ⟨memoryLaw_filling, by decide +kernel, by decide +kernel⟩

/-- R94 to R96: the 249th and the 250th sample of the pretrigger part, a sample in READY that is no candidate and one that
is, the last but one after the trigger. -/
theorem test_kept_samples :
    let sample := fun c s => after (.keptSample c 0 0 0 false) s
    let armed := { filling .ready 250 0 with trig := { (filling .ready 250 0).trig with lowSeen := true } }
    ((sample 9 (filling .pretrig 248 0)).acq.state, (sample 9 (filling .pretrig 249 0)).acq.state) = (.pretrig, .ready)
      ∧ (sample 9 (filling .pretrig 249 0)).acq.samples = [(249, 9)]
      ∧ ((sample 127 armed).acq.state, (sample 128 armed).acq.state) = (.ready, .posttrig)
      ∧ ((sample 127 armed).acq.samples, (sample 128 armed).acq.samples) = ([(0, 127)], [(250, 128)])
      ∧ (sample 9 (filling .posttrig 250 248)).acq.counter = 0
      ∧ [0, 1].map (fun n => ((sample 9 { filling .posttrig 250 n with baseTick := 5 }).acq.seg 0).time) = [5, 0]
      ∧ (sample 9 { armed with acq := { armed.acq with state := .pretrig } }).trig.lowSeen = true
      ∧ (sample 128 { armed with acq := { armed.acq with state := .pretrig } }).trig.lowSeen = false
      ∧ (sample 9 State.reset) = State.reset := by decide +kernel

/-- The last sample of segment 0 in a run mode, with P = `p`, in a state, `post` samples written after the trigger. -/
def lastOf (m : RunMode) (st : AcqState) (p post : Nat) : State :=
  let s := filling st p post
  { s with
    trig := { s.trig with lowSeen := true }
    acq := { s.acq with
      mode := m, segs := [(0, { Seg.blank with state := .filling, snap := some 0, p := p })] } }

theorem witness_SegmentCompletes :
    let s := filling .posttrig 250 249
    MemoryLaw s ∧ AcqLaw s ∧ SnapshotLaw s ∧ RenderQueueLaw s ∧ s.acq.fillingIdx = some 0 ∧ 0 < s.slots
      ∧ s.acq.segLength (s.acq.seg 0) ≤ (s.acq.seg 0).p + s.acq.postCount + 1 :=
  ⟨memoryLaw_filling, acqLaw_filling, snapshotLaw_filling, renderQueueLaw_filling, rfl, by decide +kernel,
    by decide +kernel⟩

/-- R96 to R99: the 250th sample after the trigger, the trigger sample with P = N - 1 and with P = N; in RUN, SINGLE and
SEQUENCE of one segment: the count, the state, the notices, the hand-off; the sample written or not, and the timestamp. -/
theorem test_completions :
    let t := fun m st p post => after (.keptSample 255 0 0 0 false)
      { lastOf m st p post with baseTick := 9 }
    [t .run .posttrig 250 249, t .single .ready 499 0, t .single .ready 500 0, t .sequence .posttrig 250 249].map (fun t =>
        (t.acq.counter, t.acq.state, t.rend.render.map (·.seg), (t.acq.seg 0).ovr, (t.acq.seg 0).time))
      = [(1, .settling, some 0, 1, 0), (1, .stopped, some 0, 1, 9), (1, .stopped, some 0, 1, 9), (1, .stopped, some 0, 1, 0)]
      ∧ [t .single .ready 499 0, t .single .ready 500 0].map (·.acq.samples) = [[(499, 255)], []]
      ∧ (t .run .posttrig 250 249).portA.queue = [.segmentDone 0 1 false 0]
      ∧ (t .single .posttrig 250 249).portB.queue = [.segmentDone 0 1 false 0, .runState .stop]
      ∧ (t .sequence .posttrig 250 249).portA.queue
        = [.segmentDone 0 1 false 0, .sequenceDone 1, .runState .stop]
      ∧ ((t .sequence .posttrig 250 249).acq.seqList, (t .sequence .posttrig 250 249).acq.seqCount) = ([0], 1) := by
  decide +kernel

/-! ## The screen -/

/-- A render of channel 1 of segment 0 in hand at a column, with its samples read. -/
def rendering (col read : Nat) : State :=
  let s := withSegment 0 []
  { s with
    acq := { s.acq with segs := [(0, { s.acq.seg 0 with pending := true })] }
    rend := { Renderer.initial with
      render := some ⟨0, 0, 500, 1, [⟨1, 0, false⟩], 0, col, some 399, read⟩ } }

theorem witness_RenderColumnStep :
    MemoryLaw (rendering 499 500) ∧ RenderQueueLaw (rendering 499 500) ∧ (rendering 499 500).acq.state ≠ .waitSegment
      ∧ ∃ r, (rendering 499 500).rend.render = some r ∧ r.chans[r.hand]? = some ⟨1, 0, false⟩ ∧ r.col < 500 := by
  refine ⟨by unfold MemoryLaw; decide +kernel, ⟨by decide, by decide, ?_, ?_, ?_, ?_⟩, by decide +kernel,
    ⟨0, 0, 500, 1, [⟨1, 0, false⟩], 0, 499, some 399, 500⟩, rfl, rfl, by decide⟩
  · rintro i (h | ⟨r, h, rfl⟩)
    · cases h
    · injection h with h
      subst h
      exact ⟨rfl, rfl⟩
  · intro i h
    cases i with
    | zero => exact .inr ⟨_, rfl, rfl⟩
    | succ n => cases h
  · intro r _ h
    cases h
  · intro h
    cases h

/-- R114, R119 to R121: a column waits for its sample; code 0 is at row 399 with p = 0; a full count stays 255; the last
column ends the render. -/
theorem test_column_step :
    (after .renderColumnStep (rendering 3 3)) = rendering 3 3
      ∧ (after .renderColumnStep (rendering 3 4)).rend.rasters = [(3 * 400 + 399, 1)]
      ∧ (after .renderColumnStep { rendering 3 4 with
          rend := { (rendering 3 4).rend with rasters := [(1599, 255)] } }).rend.rasters = [(1599, 255)]
      ∧ ((after .renderColumnStep (rendering 3 4)).rend.render.map (·.col)) = some 4
      ∧ (after .renderColumnStep (rendering 499 500)).rend.render = none
      ∧ (let s := rendering 499 500
        let due := after .renderColumnStep { s with rend := { s.rend with rasters := [(7, 255)], decayDue := true } }
        ((due.acq.seg 0).pending, due.rend.rasters) = (false, [])) := by decide +kernel

/-- R128, R129, R44: a waiting compositor composes, a busy one goes on; the 32nd frame turns the blink phase. -/
theorem test_frame :
    (after .frameExpiry State.reset).comp.state = .composing
      ∧ (after .frameExpiry { State.reset with comp := { State.reset.comp with state := .flipHeld } }).comp.state = .flipHeld
      ∧ [30, 31].map (fun n => (after .frameExpiry { State.reset with
          panel := { State.reset.panel with blinkCount := n } }).panel.blinkOn) = [true, false]
      ∧ after .buildEnd State.reset = State.reset := by decide +kernel

/-- The inputs of a build whose image is black: no graticule, no readouts, an EXT source, empty rasters and overlays. -/
def blackInputs : BuildInputs := { State.reset.buildInputs with vals := [(62, 2), (63, 0), (41, 4)] }

theorem black_image (x y : Nat) : pixelAt blackInputs x y = 0 := by
  have trace : ∀ j r, traceAt blackInputs j r = none := by
    intro j r
    have : (traceOrder blackInputs.channels (blackInputs.val fidFront).toNat).find? (fun n =>
        decide (Cells.get 0 blackInputs.rasters (rasterKey n j r) ≠ 0)) = none := by
      simp [List.find?_eq_none, blackInputs, State.buildInputs, State.reset, State.resetWith, Renderer.initial, Cells.get]
    simp only [traceAt, this, Option.map_none]
  have layers : overlayAt blackInputs.ovA x y = none ∧ overlayAt blackInputs.ovB x y = none := ⟨rfl, rfl⟩
  have marker : markerAt blackInputs x y = none := rfl
  have strip : readoutAt blackInputs x y = none := rfl
  have area : waveformAt blackInputs x y = none := by
    rw [waveformAt, trace]
    simp [graticuleAt, onGraticule, BuildInputs.val, blackInputs]
  simp [pixelAt, layers.1, layers.2, marker, strip, area]

/-- A build of it whose last access has been served. -/
def builtWhole (reads : Nat) : State :=
  { State.reset with comp := { State.reset.comp with
    state := .composing, build := some blackInputs, built := 384000, reads := reads } }

/-- R130: the premises of a build's end, with no screen read and with one. -/
theorem witness_FrameAndBuild : ∀ reads, BuildLaw (builtWhole reads) ∧ (builtWhole reads).comp.state = .composing
    ∧ (builtWhole reads).comp.build = some blackInputs ∧ (builtWhole reads).comp.built = 384000 := by
  intro reads
  refine ⟨⟨by simp [builtWhole], by simp [builtWhole], ?_⟩, rfl, rfl, rfl⟩
  intro b hb k _
  simp only [builtWhole, Option.some.injEq] at hb
  subst hb
  exact (black_image _ _).symm

/-- R130, R172: a build does not end before its last access, and its last access carries its last 16 words. -/
theorem test_build_end :
    after .buildEnd (building 383999) = building 383999
      ∧ [0, 1].map (fun n => (after .buildEnd (builtWhole n)).comp.state) = [.waiting, .flipHeld]
      ∧ [383983, 383984].map (fun n => (after .frameBufferAccess (building n)).comp.built) = [383999, 384000]
      ∧ after .frameBufferAccess (building 384000) = building 384000 := by decide +kernel

/-- R138, R139: the readouts of the manual's examples. -/
theorem test_readouts :
    let b := State.reset.buildInputs
    let with_ := fun (vs : List (Nat × Int)) => { b with vals := vs ++ b.vals }
    channelItem (with_ [(5, 1)]) 1 = "1 5.00V=".toList
      ∧ channelItem { with_ [(17, 0), (19, 1)] with current := some (4, 0) } 3 = "3 1.00mV~!".toList
      ∧ channelItem { with_ [(9, 12), (13, 2), (11, 2)] with current := some (0, 2), changed := [9] } 2
        = "2 1.00kVGF*".toList
      ∧ timeItem b = "2.00µs".toList := by decide +kernel

/-- R137: the examples of the manual, and R139, R140. -/
theorem test_texts :
    let b := State.reset.buildInputs
    let with_ := fun (vs : List (Nat × Int)) => { b with vals := vs ++ b.vals }
    [valueText 72000000 'V', valueText 10160000 'V', valueText (-5120000000000) 'V', valueText 999600000 'V', valueText 0 'V']
        = ["72.0mV", "10.2mV", "−5.12kV", "1.00V", "0.00V"].map (·.toList)
      ∧ triggerItem (with_ [(43, 137), (1, 7)]) = "CH1 / 72.0mV".toList
      ∧ triggerItem (with_ [(40, 1), (42, 2), (43, 0), (1, 12), (5, 2)]) = "CH1 WX −5.12kV".toList
      ∧ triggerItem (with_ [(41, 4)]) = "EXT /".toList
      ∧ runModeItem { b with mode := .stop, changed := [1] } = "STOP*".toList
      ∧ lockItem { b with holder := some .a } = "LOCK A".toList := by decide +kernel

/-! ## Resets and the link -/

theorem witness_Resets :
    MemoryLaw (working .programming .save false [7, 8, 9])
      ∧ (working .programming .save false [7, 8, 9]).store.op = some ⟨.save, some 3, .port .a, false⟩
      ∧ MemoryLaw (withSegment 1 [⟨0, true⟩])
      ∧ ∀ i, ((withSegment 1 [⟨0, true⟩]).acq.seg i).portHolds .a
        = ((withSegment 1 [⟨0, true⟩]).port .a).holds.countP fun h => h.seg == i := by
  refine ⟨memoryLaw_reset, rfl, by unfold MemoryLaw; decide +kernel, ?_⟩
  intro i
  cases i <;> rfl

/-- R163, R174: what a cut leaves of a record being programmed and of an erase; a port reset gives back a hold and ends
the lock. -/
theorem test_resets :
    let por := fun n u s => (after (.powerOnReset ⟨.two, .tenMillion, .s⟩ n u) s).store.flash
    [0, 2, 3, 4].map (fun n => por n [] (working .programming .save false [7, 8, 9]))
      = [[], [(6144, 7), (6145, 8)], [(6144, 7), (6145, 8), (6146, 9)], [(6144, 7), (6145, 8), (6146, 9)]]
      ∧ por 0 [(0, 9), (1, 9)] (working .erasing .save true []) = [(6144, 0), (6145, 9)]
      ∧ por 0 [(1, 9)] (working .erasing .save false []) = []
      ∧ ((after (.portReset .a) (withSegment 1 [⟨0, true⟩])).acq.seg 0).holdsA = 0
      ∧ (after (.portReset .b) lockedByB).setup.holder = none
      ∧ (after (.portReset .b) lockedByB).portB.queue = [.lockChanged none]
      ∧ (after (.prstRelease .b) (after (.portReset .b) lockedByB)).portB.prst = false := by decide +kernel

/-- A part that gives PORT_A the waveform of segment 0, its only hold; nothing else keeps the segment, or it is current. -/
def givingOut (cur : Bool) : State :=
  let s := withSegment 1 [⟨0, true⟩]
  { s with
    acq := { s.acq with segs := [(0, { s.acq.seg 0 with current := cur })] }
    portA := { s.portA with link := .dataOut, out := some (.waveform 0 1 499 1), word := 1 } }

/-- The records of that part. -/
theorem seg_givingOut (cur : Bool) (i : Nat) : (givingOut cur).acq.seg i
    = if i = 0 then
        { Seg.blank with state := .complete, snap := some 0, seq := 7, p := 250, holdsA := 1, current := cur }
      else Seg.blank := by
  cases i <;> rfl

/-- R102, R107: the premises of what becomes of the segment whose last hold an abort, a port reset or the last word of the
data gives back; with nothing else to keep it, and current. -/
theorem witness_AbortEnds : ∀ cur ∈ [false, true], MemoryLaw (givingOut cur) ∧ PortHoldLaw (givingOut cur) .a
    ∧ RenderQueueLaw (givingOut cur) ∧ ((givingOut cur).port .a).out = some (.waveform 0 1 499 1)
    ∧ (KeptLess (givingOut cur) 1 0 ↔ cur = true) := by
  intro cur h
  refine ⟨?_, ⟨Nat.le_of_ble_eq_true rfl, ?_, ?_, rfl, fun _ => .inr rfl⟩,
    ⟨Nat.zero_le _, List.nodup_nil, ?_, ?_, ?_, fun _ => ⟨rfl, rfl⟩⟩, rfl, ?_⟩
  · revert cur
    unfold MemoryLaw
    decide +kernel
  · intro i
    cases i <;> rfl
  · intro e he
    simp [givingOut, withSegment, State.port] at he
    subst he
    rfl
  · rintro i (h | ⟨r, h, -⟩) <;> cases h
  · intro i
    rw [seg_givingOut]
    split <;> simp [Seg.blank]
  · rintro r h
    cases h
  · revert cur
    unfold KeptLess
    decide +kernel

/-- R87, R102: the last hold given back by a port reset, an abort and the last word: freed, or COMPLETE while current. -/
theorem test_last_hold :
    [Instr.portReset .a, .abort .a, .wordRead .a].map (fun c => [false, true].map fun cur =>
        (((after c (givingOut cur)).acq.seg 0).state, (after c (givingOut cur)).portA.holds))
      = List.replicate 3 [(.free, []), (.complete, [])] := by decide +kernel

/-- R173: in IDLE, on an unread response, of a refused READ_WAVEFORM too (log 41), and in EXECUTING; on a DATA_OUT the hold
goes back. -/
theorem test_abort :
    let s := withSegment 1 [⟨0, true⟩]
    let out := s.updPort .a fun ps => { ps with link := .dataOut, out := some (.waveform 0 1 0 9) }
    after (.abort .a) State.reset = State.reset
      ∧ codeOf (after (.abort .a) (ask (.identify .a) kindIdentify State.reset [])) = some 0
      ∧ codeOf (after (.abort .a) (ask (.readWaveform .a) kindReadWaveform State.reset [0, 1, 0, 0, 0, 1])) = some 10
      ∧ codeOf (after (.abort .a) (offer State.reset .a kindIdentify [])) = some 17
      ∧ codeOf (after (.abort .a) out) = some 17 ∧ (after (.abort .a) out).portA.holds = [] := by decide +kernel

/-- A WRITE_OVERLAY of PORT_B in its data phase: x = 790, y = 0, width 20, height 2 (the example of R142). -/
def overlayData : State :=
  State.reset.updPort .b fun ps =>
    { ps with link := .dataIn, staged := some ⟨kindWriteOverlay, [790, 0, 20, 2], false⟩ }

theorem witness_WordsWritten : MemoryLaw overlayData ∧ (overlayData.port .b).link = .dataIn
    ∧ (overlayData.port .b).staged = some ⟨kindWriteOverlay, [790, 0, 20, 2], false⟩ := ⟨memoryLaw_reset, rfl, rfl⟩

/-- R181: the codes of the mark lines. -/
theorem test_marks : [0, 1, 2, 3].map (fun m => markCommand .b m 7)
    = [.startWord .b 7, .frameWord .b 7, .dataWord .b 7, .checkWord .b 7] := by decide

/-- R184, R185: the kinds with the least and the greatest parameter counts, and one beyond each. -/
theorem test_kinds :
    let takes := fun (k : BitVec 8) n => decide (KindTakes k (List.replicate n 3))
    [takes 0x11 2, takes 0x11 5, takes 0x11 62, takes 0x11 65, takes 0x11 4, takes 0x43 5, takes 0x43 4, takes 0x50 18,
      takes 0x50 17, takes 0x01 0, takes 0x01 1, takes 0x04 0, takes 0x56 0]
      = [true, true, true, false, false, true, false, true, false, true, false, false, false] := by decide +kernel

/-- R165, R166: counts 64 and 65; a frame of IDENTIFY with its CRC word, and with a bad one; an unknown kind. -/
theorem test_frames :
    let start := fun w => after (.startWord .a w) State.reset
    (start 0x1140).portA.link = .receiving ∧ codeOf (start 0x1141) = some 3
      ∧ (after (.frameWord .a (crcOf [0x0100])) (start 0x0100)).portA.staged = some ⟨kindIdentify, [], false⟩
      ∧ codeOf (after (.frameWord .a (crcOf [0x0100] + 1)) (start 0x0100)) = some 3
      ∧ codeOf (after (.frameWord .a (crcOf [0x0400])) (start 0x0400)) = some 4
      ∧ codeOf (after (.dataWord .a 0) (start 0x0100)) = some 3
      ∧ (after (.startWord .a 0x1105) (offer State.reset .a kindIdentify [])).portA.discard = 6 := by decide +kernel

/-- R142, R170: burst 0 good stores pixels 0 to 9, burst 1 bad stores none and is the first failed (the manual's
example). -/
theorem test_overlay_bursts :
    let words := List.replicate 5 (0x3333 : Word)
    let burst := fun s check => after (.checkWord .b check) (words.foldl (fun s w => after (.dataWord .b w) s) s)
    let t := burst (burst overlayData (crcOf words)) (crcOf words + 1)
    t.comp.ovB.plane = (List.range 10).map (fun i => (790 + i, 3)) ∧ t.portB.failed = some 1
      ∧ t.portB.link = .executing ∧ t.portB.counted = 10 := by decide +kernel

theorem witness_WordReadGives : MemoryLaw (givingOut false) ∧ PortHoldLaw (givingOut false) .a
    ∧ RenderQueueLaw (givingOut false) := by
  obtain ⟨h1, h2, h3, -⟩ := witness_AbortEnds false (by decide)
  exact ⟨h1, h2, h3⟩

/-- R165, R168, R169: PRST, the two acknowledges, a response, nothing to read; the last word of an odd waveform with a
zero below it, its CRC word, and the hold given back. -/
theorem test_reads :
    let read := fun s : State => after (.wordRead .a) s
    let acks := fun a => (read (State.reset.updPort .a fun ps => { ps with ack := a, readWord := 9 })).portA.readWord
    let out := (withSegment 1 [⟨0, true⟩]).updPort .a fun ps =>
      { ps with link := .dataOut, out := some (.waveform 0 1 499 1), fetched := 1 }
    [acks .accepted, acks .busy, acks .none] = [0, 2, 0xFFFF]
      ∧ (read (after (.portReset .a) State.reset)).portA.readWord = 0xFFFF
      ∧ (read (ask (.setClock .a) kindSetClock (quiet State.reset) [0, 9])).portA.readWord = 0
      ∧ ((read out).portA.readWord, (read out).portA.word, (read out).portA.link) = (0, 1, .dataOut)
      ∧ ((read (read out)).portA.readWord, (read (read out)).portA.link) = (crcOf [0], .idle)
      ∧ (read (read out)).portA.holds = []
      ∧ (let wait := read (out.updPort .a fun ps => { ps with fetched := 0 })
        (wait.portA.waiting, wait.portA.word, read wait == wait) = (true, 0, true)) := by decide +kernel

/-- R165: a START while a read waits; the next word read is the acknowledge, and the reads after it go on from the data. R130,
R145: the last screen read's end flips in FLIP_HELD. -/
theorem test_start_in_wait :
    let read := fun s : State => after (.wordRead .a) s
    let wait := read ((withSegment 1 [⟨0, true⟩]).updPort .a fun ps =>
      { ps with link := .dataOut, out := some (.waveform 0 1 499 1) })
    let busy := after (.startWord .a 0x0100) wait
    let screen := { State.reset with comp := { State.reset.comp with state := .flipHeld, reads := 1, back := [(5, 7)] } }.updPort
      .a fun ps => { ps with link := .dataOut, out := some .screen, burst := 749, word := 512 }
    (busy.portA.ack, busy.portA.waiting, after .sampleMemoryAccess busy == busy) = (.busy, false, true)
      ∧ (read busy).portA.readWord = 2
      ∧ ((read (read busy)).portA.waiting, (after .sampleMemoryAccess (read (read busy))).portA.word) = (true, 1)
      ∧ ((read screen).comp.state, (read screen).comp.reads, (read screen).comp.front) = (.waiting, 0, [(5, 7)])
      ∧ (after (.portReset .a) screen).comp.front = [(5, 7)] := by decide +kernel

/-- R165, R171, R172: with reads of both ports waiting, the one after the last served is next; the read that waited is
given the first word of its access; a port whose master pauses takes no turn. -/
theorem test_turns :
    let out := State.reset.updPort .a fun ps => { ps with link := .dataOut, out := some (.waveform 0 1 0 9) }
    let both := out.updPort .b fun ps => { ps with link := .dataOut, out := some (.waveform 0 1 0 900) }
    let asked := after (.wordRead .b) (after (.wordRead .a) both)
    let first := after .sampleMemoryAccess asked
    (first.memLast, first.portA.fetched, first.portA.word, first.portA.waiting, first.portA.readWord)
      = (.portA, 4, 1, false, 0)
      ∧ (after .sampleMemoryAccess first).portB.fetched = 15
      ∧ (after .sampleMemoryAccess (after (.wordRead .b) both)).memLast = .portB
      ∧ after .sampleMemoryAccess both = both
      ∧ after .sampleMemoryAccess State.reset = State.reset ∧ after .frameBufferAccess State.reset = State.reset := by
  decide +kernel

/-- R171, R172: with the frame buffers last served to PORT_B and a build in hand, the compositor is the first claimant. -/
theorem witness_MemoryTurns :
    let s := { State.reset with comp := { State.reset.comp with state := .composing } }
    MemoryLaw s ∧ s.fbLast = .portB ∧ [Claimant.engine, .portA, .portB] = [] ++ .engine :: [.portA, .portB]
      ∧ s.comp.state = .composing ∧ s.comp.built < 384000 := ⟨memoryLaw_reset, rfl, rfl, rfl, by decide⟩

end Sys2Proof.Tests
end

section
/-!
SUPPORT. What a read of an addressed memory says of the cells it lists, the segment records after one of them is
replaced, and what the search for the filling and the current segment finds.
-/

namespace Sys2Proof.Machine

section
variable {α : Type} [DecidableEq α]

omit [DecidableEq α] in
/-- A cell that does not read as the default is listed with the value it reads. -/
theorem Cells.mem_of_get_ne {d : α} {m : Cells α} {a : Nat} (h : Cells.get d m a ≠ d) : (a, Cells.get d m a) ∈ m := by
  induction m with
  | nil => exact absurd rfl h
  | cons e m ih =>
    obtain ⟨k, w⟩ := e
    simp only [Cells.get] at h ⊢
    split
    · next hk => simp [hk]
    · next hk =>
      rw [if_neg hk] at h
      exact List.mem_cons_of_mem _ (ih h)

/-- A listed cell reads as its value, which is not the default. -/
theorem Cells.get_of_mem {d : α} {m : Cells α} (hw : Cells.wf d m = true) {a : Nat} {v : α} (h : (a, v) ∈ m) :
    Cells.get d m a = v ∧ v ≠ d := by
  induction m with
  | nil => simp at h
  | cons e m ih =>
    obtain ⟨k, w⟩ := e
    simp only [Cells.wf, Bool.and_eq_true, decide_eq_true_eq, List.all_eq_true] at hw
    obtain ⟨⟨hne, hlt⟩, hm⟩ := hw
    rcases List.mem_cons.1 h with h | h
    · obtain ⟨rfl, rfl⟩ := Prod.mk.inj h
      simp [Cells.get, hne]
    · have hk : k ≠ a := (hlt _ h).ne
      simpa [Cells.get, hk] using ih hm h

/-- The first cell with a property that the default lacks: the address found reads a value with the property. -/
theorem Cells.get_of_find? {d : α} {m : Cells α} (hw : Cells.wf d m = true) {q : α → Bool} {a : Nat}
    (h : (m.find? fun c => q c.2).map (·.1) = some a) : q (Cells.get d m a) = true := by
  obtain ⟨⟨k, v⟩, hf, rfl⟩ := Option.map_eq_some_iff.1 h
  rw [(Cells.get_of_mem hw (List.mem_of_find?_eq_some hf)).1]
  simpa using List.find?_some hf

omit [DecidableEq α] in
/-- No cell is found with a property that the default lacks: no address reads a value with it. -/
theorem Cells.get_of_find?_none {d : α} {m : Cells α} {q : α → Bool} (hd : q d = false)
    (h : (m.find? fun c => q c.2).map (·.1) = none) (a : Nat) : q (Cells.get d m a) = false := by
  rw [Option.map_eq_none_iff, List.find?_eq_none] at h
  by_cases hne : Cells.get d m a = d
  · rw [hne, hd]
  · simpa using h _ (Cells.mem_of_get_ne hne)

end

/-- The records after one of them is replaced. -/
theorem Acq.seg_put {a : Acq} (h : Cells.wf Seg.blank a.segs = true) (i : Nat) (g : Seg) (j : Nat) :
    Cells.get Seg.blank (Cells.put Seg.blank a.segs i g) j = if j = i then g else a.seg j := Cells.get_put h i g j

theorem Acq.seg_setSeg {a : Acq} (h : Cells.wf Seg.blank a.segs = true) (i : Nat) (g : Seg) (j : Nat) :
    (a.setSeg i g).seg j = if j = i then g else a.seg j := Cells.get_put h i g j

/-- The filling segment that the search finds is FILLING. -/
theorem Acq.filling_of_fillingIdx {a : Acq} (h : Cells.wf Seg.blank a.segs = true) {i : Nat}
    (hi : a.fillingIdx = some i) : (a.seg i).state = .filling := by
  simpa [Acq.seg] using Cells.get_of_find? (q := fun g : Seg => decide (g.state = .filling)) h hi

/-- Where the search finds none, no segment is FILLING. -/
theorem Acq.not_filling_of_fillingIdx {a : Acq} (hi : a.fillingIdx = none) (i : Nat) :
    (a.seg i).state ≠ .filling := by
  simpa [Acq.seg] using
    Cells.get_of_find?_none (d := Seg.blank) (q := fun g : Seg => decide (g.state = .filling)) rfl hi i

/-- A record that is not FREE is listed. -/
theorem Acq.mem_segs {a : Acq} {i : Nat} (h : (a.seg i).state ≠ .free) : (i, a.seg i) ∈ a.segs :=
  Cells.mem_of_get_ne fun hb => h (by rw [Acq.seg, hb]; rfl)

/-- Changing one element of a list changes no other. -/
theorem getElem?_updateAt {α : Type} (l : List α) (i : Nat) (f : α → α) (j : Nat) :
    (updateAt l i f)[j]? = (l[j]?).map fun x => if j = i then f x else x := by
  simp [updateAt, List.getElem?_mapIdx]

@[simp] theorem length_updateAt {α : Type} (l : List α) (i : Nat) (f : α → α) : (updateAt l i f).length = l.length := by
  simp [updateAt]

end Sys2Proof.Machine
end

section
/-!
SUPPORT. The shared operations that leave the front end, the live values and what is FILLING as they are: one lemma an
operation, over the relation `FillKept`.
-/

namespace Sys2Proof.Machine

/-! ## The relation -/

/-- Record h is FILLING exactly when g is, and then by the same snapshot entry. -/
def SegKept (g h : Seg) : Prop := (h.state = .filling ↔ g.state = .filling) ∧ (g.state = .filling → h.snap = g.snap)

theorem SegKept.refl (g : Seg) : SegKept g g := ⟨Iff.rfl, fun _ => rfl⟩

theorem SegKept.trans {g h k : Seg} (p : SegKept g h) (q : SegKept h k) : SegKept g k :=
  ⟨q.1.trans p.1, fun hg => (q.2 (p.1.2 hg)).trans (p.2 hg)⟩

/-- A record that keeps state and snapshot entry. -/
theorem SegKept.of_eq {g h : Seg} (hs : h.state = g.state) (hn : h.snap = g.snap) : SegKept g h :=
  ⟨by rw [hs], fun _ => hn⟩

/-- No filling record goes and none comes. -/
theorem SegKept.of_not {g h : Seg} (hg : g.state ≠ .filling) (hh : h.state ≠ .filling) : SegKept g h :=
  ⟨⟨fun k => absurd k hh, fun k => absurd k hg⟩, fun k => absurd k hg⟩

/-- The acquisition stays in or out of STOP, in its state or among the states in which a segment is FILLING, with the
same segments FILLING by the same snapshot values (R84, R88, R93). -/
structure AcqKept (a b : Acq) : Prop where
  mode : b.mode = .stop ↔ a.mode = .stop
  state : b.state = a.state ∨ (a.state.fills = true ∧ b.state.fills = true)
  wf : Cells.wf Seg.blank a.segs = true → Cells.wf Seg.blank b.segs = true
  seg : Cells.wf Seg.blank a.segs = true → ∀ i, SegKept (a.seg i) (b.seg i)
  vals : ∀ e, (b.snaps.getD e Snap.initial).vals = (a.snaps.getD e Snap.initial).vals

theorem AcqKept.refl (a : Acq) : AcqKept a a := ⟨Iff.rfl, .inl rfl, id, fun _ _ => .refl _, fun _ => rfl⟩

theorem AcqKept.trans {a b c : Acq} (h : AcqKept a b) (k : AcqKept b c) : AcqKept a c where
  mode := k.mode.trans h.mode
  state := by
    rcases h.state with e | ⟨p, q⟩ <;> rcases k.state with e' | ⟨p', q'⟩
    · exact .inl (e'.trans e)
    · exact .inr ⟨e ▸ p', q'⟩
    · exact .inr ⟨p, e' ▸ q⟩
    · exact .inr ⟨p, q'⟩
  wf := fun w => k.wf (h.wf w)
  seg := fun w i => (h.seg w i).trans (k.seg (h.wf w) i)
  vals := fun e => (k.vals e).trans (h.vals e)

/-- The acquisition with one record replaced by one that is FILLING exactly when the old one is. -/
theorem AcqKept.put (a : Acq) (i : Nat) {g : Seg} (h : SegKept (a.seg i) g) : AcqKept a (a.setSeg i g) where
  mode := Iff.rfl
  state := .inl rfl
  wf := fun w => Cells.wf_put w i g
  seg := fun w j => by
    rw [Acq.seg_setSeg w]
    split
    · next hj => exact hj ▸ h
    · exact .refl _
  vals := fun _ => rfl

/-- An operation that leaves the queue, straps, clock, live values and front end as they were, and what is FILLING. -/
structure FillKept (s t : State) : Prop where
  pending : t.pending = s.pending
  straps : t.straps = s.straps
  baseTick : t.baseTick = s.baseTick
  recs : t.setup.recs = s.setup.recs
  fe : t.fe = s.fe
  acq : AcqKept s.acq t.acq

theorem FillKept.refl (s : State) : FillKept s s := ⟨rfl, rfl, rfl, rfl, rfl, .refl _⟩

theorem FillKept.trans {s t u : State} (h : FillKept s t) (k : FillKept t u) : FillKept s u :=
  ⟨k.pending.trans h.pending, k.straps.trans h.straps, k.baseTick.trans h.baseTick, k.recs.trans h.recs,
    k.fe.trans h.fe, h.acq.trans k.acq⟩

theorem FillKept.ite {s t u : State} {c : Prop} [Decidable c] (h : FillKept s t) (k : FillKept s u) :
    FillKept s (if c then t else u) := by split <;> assumption

theorem FillKept.foldl {α : Type} {f : State → α → State} (h : ∀ s a, FillKept s (f s a)) (l : List α) (s : State) :
    FillKept s (l.foldl f s) := by
  induction l generalizing s with
  | nil => exact .refl s
  | cons a l ih => exact (h s a).trans (ih _)

/-- What an act does beside the front end, the live values and the acquisition. -/
theorem FillKept.beside {s t : State} (h : (t.pending, t.straps, t.baseTick, t.setup.recs, t.fe, t.acq)
    = (s.pending, s.straps, s.baseTick, s.setup.recs, s.fe, s.acq)) : FillKept s t := by
  simp only [Prod.mk.injEq] at h
  obtain ⟨hp, hs, hb, hr, hf, ha⟩ := h
  exact ⟨hp, hs, hb, hr, hf, ha ▸ .refl _⟩

/-- An act of the acquisition alone, as far as the front end and the live values go. -/
theorem FillKept.of_acq {s t : State} (h : (t.pending, t.straps, t.baseTick, t.setup.recs, t.fe)
    = (s.pending, s.straps, s.baseTick, s.setup.recs, s.fe)) (ha : AcqKept s.acq t.acq) : FillKept s t := by
  simp only [Prod.mk.injEq] at h
  obtain ⟨hp, hs, hb, hr, hf⟩ := h
  exact ⟨hp, hs, hb, hr, hf, ha⟩

/-! ## Segments -/

theorem fillKept_setSeg {s : State} {i : Nat} {g : Seg} (h : SegKept (s.acq.seg i) g) : FillKept s (s.setSeg i g) :=
  .of_acq rfl (.put _ _ h)

theorem vals_dropRef (snaps : List Snap) (o : Option Nat) (e : Nat) :
    ((dropRef snaps o).getD e Snap.initial).vals = (snaps.getD e Snap.initial).vals := by
  cases o with
  | none => rfl
  | some k =>
    simp only [dropRef, List.getD_eq_getElem?_getD, getElem?_updateAt]
    cases snaps[e]? with
    | none => rfl
    | some n => simp only [Option.map_some, Option.getD_some]; split <;> rfl

/-- Freeing a segment that is not FILLING. -/
theorem fillKept_freeSeg {s : State} {i : Nat} (h : (s.acq.seg i).state ≠ .filling) : FillKept s (s.freeSeg i) := by
  have hp := AcqKept.put s.acq i (.of_not h (by simp [Seg.blank]) : SegKept _ Seg.blank)
  exact .of_acq rfl ⟨hp.mode, hp.state, hp.wf, hp.seg, vals_dropRef _ _⟩

theorem fillKept_freeIfUnkept (s : State) (i : Nat) : FillKept s (s.freeIfUnkept i) := by
  unfold State.freeIfUnkept
  split
  · next h => exact fillKept_freeSeg (by rw [← State.seg_eq, h.1]; simp)
  · exact .refl s

theorem fillKept_freeUnkept (s : State) (is : List Nat) : FillKept s (s.freeUnkept is) :=
  .foldl fillKept_freeIfUnkept is s

theorem fillKept_freeUnheld (s : State) (is : List Nat) : FillKept s (s.freeUnheld is) := by
  refine .foldl (fun s i => ?_) is s
  split
  · next h => exact fillKept_freeSeg (by rw [← State.seg_eq, h.1]; simp)
  · exact .refl s

theorem fillKept_makeCurrent (s : State) (i : Nat) : FillKept s (s.makeCurrent i) := by
  have set (s : State) (i : Nat) (b : Bool) : FillKept s (s.setSeg i { s.seg i with current := b }) :=
    fillKept_setSeg (.of_eq rfl rfl)
  unfold State.makeCurrent
  split
  · exact .ite (.refl s) (((set s _ false).trans (set _ i true)).trans (fillKept_freeIfUnkept _ _))
  · exact set s i true

/-! ## Renderer -/

theorem fillKept_consumeDecay (s : State) : FillKept s s.consumeDecay := .beside rfl

theorem fillKept_clearPending (s : State) (i : Nat) : FillKept s (s.clearPending i) :=
  (fillKept_setSeg (by exact .of_eq rfl rfl)).trans (fillKept_freeIfUnkept _ _)

theorem fillKept_makeRoom (s : State) : FillKept s s.makeRoom := by
  unfold State.makeRoom
  split
  · exact .refl s
  · split
    · exact (FillKept.beside (by rfl)).trans (fillKept_clearPending _ _)
    · exact .refl s

theorem fillKept_enqueue (s : State) (i : Nat) : FillKept s (s.enqueue i) :=
  (FillKept.beside (by rfl)).trans (fillKept_setSeg (by exact .of_eq rfl rfl))

theorem fillKept_handOff (s : State) (i : Nat) : FillKept s (s.handOff i) :=
  .ite (.refl s) ((fillKept_makeRoom s).trans (fillKept_enqueue _ _))

theorem fillKept_abandonRender (s : State) : FillKept s s.abandonRender := by
  unfold State.abandonRender
  split
  · exact (FillKept.beside (by rfl)).trans (fillKept_clearPending _ _)
  · exact .refl s

theorem fillKept_clearRasters (s : State) : FillKept s s.clearRasters :=
  (FillKept.beside (by rfl)).trans (fillKept_abandonRender _)

theorem fillKept_purge (s : State) : FillKept s s.purge :=
  ((FillKept.beside (by rfl)).trans (.foldl fillKept_clearPending _ _)).trans
    (fillKept_abandonRender _)

theorem fillKept_takeRender (s : State) (n : Nat) : FillKept s (s.takeRender n) := by
  induction n generalizing s with
  | zero => exact .refl s
  | succ n ih =>
    unfold State.takeRender
    split
    · exact .refl s
    · exact .ite (((FillKept.beside (by rfl)).trans (fillKept_clearPending _ _)).trans (ih _)) (.beside rfl)

theorem fillKept_resume (s : State) : FillKept s s.resume := by
  unfold State.resume
  split
  · exact .refl s
  · exact (fillKept_consumeDecay s).trans (fillKept_takeRender _ _)

theorem fillKept_columnStep (s : State) (r : Render) (m : ChanMap) : FillKept s (s.columnStep r m) :=
  .ite (.beside rfl) (((FillKept.beside (by rfl)).trans (fillKept_abandonRender _)).trans (fillKept_resume _))

/-! ## Triggers and samples -/

theorem fillKept_takeTrigger {s : State} (h : s.acq.state.fills = true) (auto : Bool) :
    FillKept s (s.takeTrigger auto) := by
  have taken : FillKept s { s with
      trig := s.trig.taken (s.fieldVal 49) (s.fieldVal fidAuxSource)
      acq := { s.acq with state := .posttrig, postCount := 0 } } :=
    .of_acq rfl ⟨Iff.rfl, .inr ⟨h, rfl⟩, id, fun _ _ => .refl _, fun _ => rfl⟩
  unfold State.takeTrigger
  dsimp only
  split
  · exact taken.trans (fillKept_setSeg (.of_eq rfl rfl))
  · exact taken

theorem fillKept_passToReady {s : State} (h : s.acq.state.fills = true) : FillKept s s.passToReady :=
  .ite ((FillKept.beside (by rfl)).trans (fillKept_takeTrigger (by exact h) _))
    (.of_acq rfl ⟨Iff.rfl, .inr ⟨h, rfl⟩, id, fun _ _ => .refl _, fun _ => rfl⟩)

theorem fillKept_force (s : State) : FillKept s s.force := by
  unfold State.force
  split
  · exact .beside rfl
  · next h => exact fillKept_takeTrigger (by rw [h]; rfl) _
  · exact .refl s

theorem fillKept_writeSample (s : State) (i pos : Nat) (cs : List Byte) : FillKept s (s.writeSample i pos cs) :=
  .of_acq rfl ⟨Iff.rfl, .inl rfl, id, fun _ _ => .refl _, fun _ => rfl⟩

theorem fillKept_tracked (s : State) (i : Nat) (cs : List Byte) (ext : Bool) : FillKept s (s.tracked i cs ext) :=
  .of_acq rfl ⟨Iff.rfl, .inl rfl, id, fun _ _ => .refl _, fun _ => rfl⟩

theorem fillKept_overwriteOldest (s : State) (i : Nat) (cs : List Byte) : FillKept s (s.overwriteOldest i cs) :=
  .ite (.refl s) ((fillKept_writeSample s _ _ _).trans (fillKept_setSeg (.of_eq rfl rfl)))

theorem fillKept_pretrigSample {s : State} (h : s.acq.state.fills = true) (i : Nat) (cs : List Byte) :
    FillKept s (s.pretrigSample i cs) := by
  have counted : FillKept s { s.writeSample i s.acq.fillCount cs with
      acq := { (s.writeSample i s.acq.fillCount cs).acq with fillCount := s.acq.fillCount + 1 } } :=
    (fillKept_writeSample s i s.acq.fillCount cs).trans
      (.of_acq rfl ⟨Iff.rfl, .inl rfl, id, fun _ _ => .refl _, fun _ => rfl⟩)
  exact .ite (counted.trans (fillKept_passToReady h)) counted

/-! ## Run modes and disposition -/

theorem fillKept_post (s : State) (n : Notice) : FillKept s (s.post n) := .beside rfl

/-- A change of the run mode that neither enters nor leaves STOP. -/
theorem fillKept_setMode {s : State} {m : RunMode} (h : m = .stop ↔ s.acq.mode = .stop) : FillKept s (s.setMode m) :=
  .of_acq rfl ⟨h, .inl rfl, id, fun _ _ => .refl _, fun _ => rfl⟩

theorem fillKept_emptySequence (s : State) : FillKept s s.emptySequence :=
  (FillKept.of_acq (by rfl) (by exact ⟨Iff.rfl, .inl rfl, id, fun _ _ => .refl _, fun _ => rfl⟩)).trans
    (fillKept_freeUnkept _ _)

theorem fillKept_startSequence (s : State) : FillKept s s.startSequence :=
  (fillKept_freeUnheld s _).trans (.of_acq rfl ⟨Iff.rfl, .inl rfl, id, fun _ _ => .refl _, fun _ => rfl⟩)

theorem fillKept_freeAboveK (s : State) (ids : List Nat) : FillKept s (s.freeAboveK ids) :=
  .ite (fillKept_freeUnheld _ _) (.refl s)

theorem fillKept_requeueCurrent (s : State) : FillKept s s.requeueCurrent := by
  unfold State.requeueCurrent
  split
  · exact fillKept_handOff s _
  · exact .refl s

theorem fillKept_disposeView (s : State) (ids : List Nat) : FillKept s (s.disposeView ids) :=
  .ite (.ite (fillKept_clearRasters s) ((fillKept_clearRasters s).trans (fillKept_requeueCurrent _))) (.refl s)

theorem fillKept_disposeTrigMode (s : State) (ids : List Nat) : FillKept s (s.disposeTrigMode ids) :=
  .ite (.beside rfl) (.refl s)

theorem fillKept_disposeAux (s : State) (ids : List Nat) : FillKept s (s.disposeAux ids) :=
  .ite (.beside rfl) (.refl s)

/-! ## Ports -/

theorem fillKept_updPort (s : State) (p : Port) (f : PortState → PortState) : FillKept s (s.updPort p f) := .beside rfl

theorem fillKept_addHold (s : State) (p : Port) (i : Nat) (implicit : Bool) : FillKept s (s.addHold p i implicit) :=
  (fillKept_setSeg (by exact .of_eq rfl rfl)).trans (fillKept_updPort _ _ _)

theorem fillKept_dropHold (s : State) (p : Port) (i : Nat) (implicit : Bool) : FillKept s (s.dropHold p i implicit) :=
  ((fillKept_setSeg (by exact .of_eq rfl rfl)).trans (fillKept_updPort _ _ _)).trans (fillKept_freeIfUnkept _ _)

theorem fillKept_releaseAll (s : State) (p : Port) : FillKept s (s.releaseAll p) :=
  .foldl (fun s (h : HoldEntry) => fillKept_dropHold s p h.seg h.implicit) _ s

end Sys2Proof.Machine
end

section
/-!
SUPPORT. What the commands are made of: every command but a power-on reset, and every event taken on an empty queue, is
an `Act`, a chain of the few operations that reach the front end, the live values and what is FILLING.
-/

namespace Sys2Proof.Machine

/-- A chain of operations of the part. -/
inductive Act : State → State → Prop
  | kept {s t : State} (h : FillKept s t) : Act s t
  | trans {s t u : State} (h : Act s t) (k : Act t u) : Act s u
  | retryWait (s : State) : Act s s.retryWait
  | runControl (s : State) (m : RunMode) : Act s (s.runControl m)
  | keptSample (s : State) (cs : List Byte) (ext : Bool) : Act s (s.keptSample cs ext)
  | confirm {s : State} {f : Flight} (h : s.fe.link = some f) : Act s (s.feConfirm f.chan)
  | mismatch {s : State} {f : Flight} (h : s.fe.link = some f) : Act s (s.feMismatch f.chan)
  | expire (s : State) (n : Nat) : Act s { s with fe := s.fe.updChan n ChanRec.expire }
  | arbitrate (s : State) : Act s s.feArbitrate
  | tellSettled (s : State) : Act s s.tellSettled
  | applyValues (s : State) (src : Source) (f : Nat → Int) : Act s (s.applyValues src f)

namespace Act

theorem refl (s : State) : Act s s := .kept (.refl s)

theorem beside {s t : State} (h : (t.pending, t.straps, t.baseTick, t.setup.recs, t.fe, t.acq)
    = (s.pending, s.straps, s.baseTick, s.setup.recs, s.fe, s.acq)) : Act s t := .kept (.beside h)

theorem ite {s t u : State} {c : Prop} [Decidable c] (h : Act s t) (k : Act s u) : Act s (if c then t else u) := by
  split <;> assumption

theorem foldl {α : Type} {f : State → α → State} (h : ∀ s a, Act s (f s a)) (l : List α) (s : State) :
    Act s (l.foldl f s) := by
  induction l generalizing s with
  | nil => exact .refl s
  | cons a l ih => exact (h s a).trans (ih _)

/-- An act keeps the queue, the straps and the base tick count. -/
theorem clock {s t : State} (h : Act s t) : t.pending = s.pending ∧ t.straps = s.straps ∧ t.baseTick = s.baseTick := by
  have inner {s t : State} (k : Inner s t) : t.pending = s.pending ∧ t.straps = s.straps ∧ t.baseTick = s.baseTick :=
    ⟨k.pending, k.straps, k.baseTick⟩
  induction h with
  | kept h => exact ⟨h.pending, h.straps, h.baseTick⟩
  | trans _ _ h k => exact ⟨k.1.trans h.1, k.2.1.trans h.2.1, k.2.2.trans h.2.2⟩
  | retryWait s => exact inner (inner_retryWait s)
  | runControl s m => exact inner (inner_runControl s m)
  | keptSample s cs ext => exact inner (inner_keptSample s cs ext)
  | confirm => exact inner (inner_feConfirm _ _)
  | mismatch => exact inner (inner_feMismatch _ _)
  | expire s n => exact ⟨rfl, rfl, rfl⟩
  | arbitrate s => exact inner (inner_feArbitrate s)
  | tellSettled s => exact inner (inner_tellSettled s)
  | applyValues s src f =>
    have k := applyValues_blocks s src f
    exact ⟨k.pending, k.straps, k.baseTick⟩

/-! ## The shared operations -/

theorem updPort (s : State) (p : Port) (f : PortState → PortState) : Act s (s.updPort p f) :=
  .kept (fillKept_updPort s p f)

theorem post (s : State) (n : Notice) : Act s (s.post n) := .beside rfl

theorem respond (s : State) (p : Port) (c : Code) (ws : List Word) : Act s (s.respond p c ws) := .beside rfl

theorem respondOut (s : State) (p : Port) (c : Code) (ws : List Word) (d : DataOut) : Act s (s.respondOut p c ws d) :=
  .beside rfl

theorem setTone (s : State) (t : Tone) : Act s (s.setTone t) := .beside rfl

theorem endLock (s : State) : Act s s.endLock := .beside rfl

theorem finishAct (s : State) : Act s s.finishAct := (Act.kept (fillKept_resume s)).trans (.retryWait _)

theorem feFinish (s : State) : Act s s.feFinish := (Act.arbitrate s).trans (.tellSettled _)

theorem dropHold (s : State) (p : Port) (i : Nat) (implicit : Bool) : Act s (s.dropHold p i implicit) :=
  .kept (fillKept_dropHold s p i implicit)

theorem giveBack (s : State) (p : Port) : Act s (s.giveBack p) := by
  unfold State.giveBack
  split
  · exact (dropHold s p _ true).trans (finishAct _)
  · exact .beside rfl
  · exact refl s

theorem giveBackScreen (s : State) (p : Port) : Act s (s.giveBackScreen p) := by
  unfold State.giveBackScreen
  split
  · exact .beside rfl
  · exact refl s

theorem change {s t : State} {src : Source} {pairs : List (Nat × Int)} {code : Code}
    (h : s.change src pairs = .ok (t, code)) : Act s t := by
  unfold State.change at h
  split at h
  · simp at h
  · next f _ _ =>
    simp only [Except.ok.injEq, Prod.mk.injEq] at h
    exact h.1 ▸ .applyValues s src f

/-! ## The link -/

theorem readOut (s : State) (p : Port) (d : DataOut) : Act s (s.readOut p d) :=
  .ite (.ite (updPort s p _) (updPort s p _)) (.ite (updPort s p _) ((giveBack s p).trans (updPort _ p _)))

theorem abort (s : State) (p : Port) : Act s (s.abort p) := by
  unfold State.abort
  split
  · exact refl s
  · exact refl s
  · exact (giveBack s p).trans (respond _ _ _ _)

theorem closeFrame (s : State) (p : Port) (w : Word) : Act s (s.closeFrame p w) :=
  .ite (respond s p _ _) (.ite (respond s p _ _) (updPort s p _))

theorem servePort (s : State) (p : Port) : Act s (s.servePort p) := by
  unfold State.servePort
  split
  · exact updPort s p _
  · exact refl s

theorem applyMap {α : Type} (s : State) (p : Port) (first : Nat) (es : List (Option α)) {f : List α → State}
    (h : ∀ l, Act s (f l)) : Act s (s.applyMap p first es f) :=
  .ite ((h _).trans (respond _ _ _ _)) (respond s p _ _)

theorem completeData (s : State) (p : Port) (r : Staged) (table : List Word) : Act s (s.completeData p r table) :=
  .ite (applyMap s p _ _ fun _ => .beside rfl) <| .ite (applyMap s p _ _ fun _ => .beside rfl) <|
    .ite (applyMap s p _ _ fun _ => .beside rfl) (respond s p _ _)

/-! ## The panel -/

theorem errorBeep (s : State) : Act s s.errorBeep := .beside rfl

theorem panelChange (s : State) (src : Source) (pairs : List (Nat × Int)) : Act s (s.panelChange src pairs) := by
  unfold State.panelChange
  split
  · exact errorBeep s
  · split
    · exact errorBeep s
    · next h => exact change h

theorem panelRun (s : State) {f : State → State} (h : Act s (f s)) : Act s (s.panelRun f) := .ite (errorBeep s) h

theorem clearDisplay (s : State) : Act s s.clearDisplay := (Act.kept (fillKept_clearRasters s)).trans (finishAct _)

theorem panelLocal (s : State) : Act s s.panelLocal := by
  unfold State.panelLocal
  split
  · exact refl s
  · exact .ite (errorBeep s) (endLock s)

theorem keyAction (s : State) (k : Nat) : ∀ a, Act s (s.keyAction k a)
  | .none => refl s
  | .report => post s _
  | .runStop => panelRun s (f := fun s => s.runControl _) (.runControl s _)
  | .single => panelRun s (f := fun s => s.runControl _) (.runControl s _)
  | .sequence => panelRun s (f := fun s => s.runControl _) (.runControl s _)
  | .force => panelRun s (.kept (fillKept_force s))
  | .clear => panelRun s (clearDisplay s)
  | .dflt => panelChange s _ _
  | .recall _ => .ite (errorBeep s) (.beside rfl)
  | .save _ => .ite (errorBeep s) (.beside rfl)
  | .channel _ => .ite (errorBeep s) (panelChange s _ _)
  | .setField _ _ => panelChange s _ _
  | .localKey => panelLocal s

theorem undue (s : State) (e : PanelEvent) : Act s (s.undue e) := .beside rfl

theorem takePress (s : State) (k : Nat) : Act s (s.takePress k) :=
  .ite (((undue s _).trans (setTone _ _)).trans (keyAction _ _ _)) (undue s _)

theorem takeRelease (s : State) (k : Nat) : Act s (s.takeRelease k) :=
  .ite ((undue s _).trans (post _ _)) (undue s _)

theorem knobAction (s : State) (e : Nat) (cw : Bool) (k : KnobEntry) (r : EncRec) : Act s (s.knobAction e cw k r) := by
  unfold State.knobAction
  split
  · exact post s _
  · exact panelChange s _ _
  · exact panelChange s _ _

theorem takeDetent (s : State) (e : Nat) (cw : Bool) : Act s (s.takeDetent e cw) :=
  .ite (((undue s (.detent e cw)).trans (.beside (t := (s.undue (.detent e cw)).countDetent e cw) rfl)).trans
    (knobAction _ _ _ _ _)) (undue s _)

theorem takeEvent (s : State) (e : PanelEvent) : Act s (s.takeEvent e) := by
  cases e with
  | press k => exact takePress s k
  | release k => exact takeRelease s k
  | detent e cw => exact takeDetent s e cw

theorem takeDue (s : State) : Act s s.takeDue := .foldl takeEvent _ s

/-! ## The setup store -/

theorem endOp (s : State) (op : StoreOp) (code : Code) : Act s (s.endOp op code) := .ite (.beside rfl) (.beside rfl)

theorem endRecall (s : State) (op : StoreOp) (ws : List Word) : Act s (s.endRecall op ws) :=
  .ite (.trans (t := { s with store := s.store.setEntry op.slotNum corruptEntry }) (.beside rfl) (endOp _ _ _)) <|
    .ite (endOp s _ _) (.trans (.applyValues s .recall _) (endOp _ _ _))

/-! ## Segments -/

theorem showSeg (s : State) (i : Nat) : Act s (s.showSeg i) :=
  (Act.kept (((fillKept_makeCurrent s i).trans (fillKept_clearRasters _)).trans (fillKept_handOff _ i))).trans
    (finishAct _)

theorem hold (s : State) (p : Port) (i : Nat) : Act s (s.hold p i) :=
  .ite (respond s p _ _) (.ite (respond s p _ _) ((Act.kept (fillKept_addHold s p i _)).trans (respond _ _ _ _)))

theorem releaseHold (s : State) (p : Port) (i : Nat) : Act s (s.releaseHold p i) :=
  .ite (respond s p _ _) (((dropHold s p i _).trans (finishAct _)).trans (respond _ _ _ _))

theorem readWave (s : State) (p : Port) (i ch start count : Nat) : Act s (s.readWave p i ch start count) :=
  .ite (respond s p _ _)
    (.ite (respond s p _ _) ((Act.kept (fillKept_addHold s p i _)).trans (respondOut _ _ _ _ _)))

end Act

/-! ## Every command -/

/-- The answer of a command is an act. -/
def AnswersAct (o : Host.Outcome State Fault Refusal) (s : State) : Prop := ∃ t, o = .next t ∧ Act s t

theorem AnswersAct.next {s t : State} (h : Act s t) : AnswersAct (.next t) s := ⟨t, rfl, h⟩

theorem AnswersAct.onRequest {s : State} {p : Port} {kind : BitVec 8} {f : List Word → State}
    (h : ∀ ws, Act s (f ws)) : AnswersAct (onRequest p kind s f) s := by
  rcases onRequest_next p kind s f with e | ⟨ws, -, e⟩
  · exact ⟨s, e, .refl s⟩
  · exact ⟨f ws, e, h ws⟩

namespace Act

theorem startWord (s : State) (p : Port) (w : Word) : AnswersAct (execStartWord p w s) s :=
  .next (.ite (refl s) (.ite (.ite ((updPort s p _).trans (respond _ _ _ _)) (updPort s p _)) (updPort s p _)))

theorem frameWord (s : State) (p : Port) (w : Word) : AnswersAct (execFrameWord p w s) s :=
  .next (.ite (refl s) (.ite (updPort s p _) (.ite (.ite (updPort s p _) (closeFrame s p w)) (refl s))))

theorem dataWord (s : State) (p : Port) (w : Word) : AnswersAct (execDataWord p w s) s := by
  refine .next (.ite (refl s) ?_)
  split
  · exact respond s p _ _
  · exact updPort s p _
  · exact refl s

theorem checkWord (s : State) (p : Port) (w : Word) : AnswersAct (execCheckWord p w s) s := by
  refine .next (.ite (refl s) ?_)
  split
  · exact respond s p _ _
  · exact .beside rfl
  · exact refl s

theorem wordRead (s : State) (p : Port) : AnswersAct (execWordRead p s) s := by
  refine .next (.ite (updPort s p _) (.ite (updPort s p _) ?_))
  split
  · exact updPort s p _
  · exact readOut s p _
  · exact updPort s p _

theorem portReset (s : State) (p : Port) : AnswersAct (execPortReset p s) s :=
  .next <| .trans
    (.ite (c := s.setup.holder = some p)
      ((((giveBackScreen s p).trans (.kept (fillKept_releaseAll _ p))).trans
        (.trans (.beside (t := State.resetOverlay _ p) rfl) (updPort _ p _))).trans (endLock _))
      (((giveBackScreen s p).trans (.kept (fillKept_releaseAll _ p))).trans
        (.trans (.beside (t := State.resetOverlay _ p) rfl) (updPort _ p _)))) (finishAct _)

theorem setupWrite (s : State) (p : Port) : AnswersAct (execSetupWrite p s) s := by
  refine .onRequest fun ws => .ite (respond s p _ _) (.ite (respond s p _ _) (.ite (respond s p _ _) ?_))
  split
  · exact respond s p _ _
  · next h => exact (change h).trans (respond _ _ _ _)

theorem setupExchange (s : State) (p : Port) : AnswersAct (execSetupExchange p s) s := by
  refine .onRequest fun ws => .ite (respond s p _ _) ?_
  split
  · exact respond s p _ _
  · next h => exact (change h).trans (respond _ _ _ _)

theorem defaultSetup (s : State) (p : Port) : AnswersAct (execDefaultSetup p s) s := by
  refine .onRequest fun ws => .ite (respond s p _ _) ?_
  split
  · exact respond s p _ _
  · next h => exact (change h).trans (respond _ _ _ _)

theorem grantLock (s : State) (p : Port) (d : Bool) : Act s (s.grantLock p d) := .ite (.beside rfl) (.beside rfl)

theorem lock (s : State) (p : Port) : AnswersAct (execLock p s) s :=
  .onRequest fun _ => .ite (respond s p _ _) ((grantLock s p _).trans (respond _ _ _ _))

theorem unlock (s : State) (p : Port) : AnswersAct (execUnlock p s) s :=
  .onRequest fun _ => .ite (respond s p _ _) ((Act.ite (refl s) (endLock s)).trans (respond _ _ _ _))

theorem beginMap (s : State) (p : Port) (size : Nat) (ws : List Word) : Act s (s.beginMap p size ws) :=
  .ite (respond s p _ _) (updPort s p _)

theorem dataInCompletion (s : State) (p : Port) : AnswersAct (execDataInCompletion p s) s := by
  refine .next ?_
  split
  · split
    · split
      · exact respond s p _ _
      · exact completeData s p _ _
    · exact refl s
  · exact refl s

theorem runControlRequest (s : State) (p : Port) : AnswersAct (execRunControl p s) s := by
  refine .onRequest fun ws => .ite (refl s) ?_
  split
  · exact respond s p _ _
  · exact .ite (respond s p _ _) ((Act.runControl s _).trans (respond _ _ _ _))

theorem runControlForce (s : State) (p : Port) : AnswersAct (execRunControlForce p s) s :=
  .onRequest fun _ => .ite (.ite (respond s p _ _) ((Act.kept (fillKept_force s)).trans (respond _ _ _ _))) (refl s)

theorem holdRequest (s : State) (p : Port) : AnswersAct (execHold p s) s := by
  refine .onRequest fun ws => ?_
  split
  · exact respond s p _ _
  · exact respond s p _ _
  · exact hold s p _

theorem releaseRequest (s : State) (p : Port) : AnswersAct (execRelease p s) s := by
  refine .onRequest fun ws => ?_
  split
  · exact respond s p _ _
  · exact respond s p _ _
  · exact releaseHold s p _

theorem readWaveform (s : State) (p : Port) : AnswersAct (execReadWaveform p s) s := by
  refine .onRequest fun ws => .ite (respond s p _ _) ?_
  split
  · exact respond s p _ _
  · exact .ite (respond s p _ _) (readWave s p _ _ _ _)

theorem segmentInfo (s : State) (p : Port) : AnswersAct (execSegmentInfo p s) s := by
  refine .onRequest fun ws => ?_
  split
  · exact respond s p _ _
  · exact respond s p _ _
  · exact respond s p _ _

theorem showSegment (s : State) (p : Port) : AnswersAct (execShowSegment p s) s := by
  refine .onRequest fun ws => ?_
  split
  · exact .ite (respond s p _ _) (.ite (respond s p _ _) (.ite (respond s p _ _) ((showSeg s _).trans
      (respond _ _ _ _))))
  · exact respond s p _ _

theorem recallSetup (s : State) (p : Port) : AnswersAct (execRecallSetup p s) s := by
  refine .onRequest fun ws => .ite (respond s p _ _) (.ite (respond s p _ _) (.ite (respond s p _ _) ?_))
  split
  · exact respond s p _ _
  · exact respond s p _ _
  · exact .beside rfl

theorem echo (s : State) (w : Word) : AnswersAct (execEcho w s) s := by
  refine .next ?_
  split
  · next h =>
    exact .ite (.ite ((Act.confirm h).trans (feFinish _)) ((Act.mismatch h).trans (feFinish _))) (refl s)
  · exact refl s

theorem echoTimeout (s : State) : AnswersAct (execEchoTimeout s) s := by
  refine .next ?_
  split
  · next h => exact (Act.mismatch h).trans (feFinish _)
  · exact refl s

theorem settleExpiry (s : State) (n : Nat) : AnswersAct (execSettleExpiry n s) s :=
  .next (.ite ((Act.expire s n).trans (.tellSettled _)) (refl s))

theorem autoTimerExpiry (s : State) : AnswersAct (execAutoTimerExpiry s) s := by
  refine .next ?_
  split
  · split
    · next h => exact .kept (fillKept_takeTrigger (by rw [h]; rfl) _)
    · exact refl s
  · exact refl s

theorem renderColumnStep (s : State) : AnswersAct (execRenderColumnStep s) s := by
  refine .next ?_
  split
  · split
    · exact .ite ((Act.kept (fillKept_columnStep s _ _)).trans (.retryWait _)) (refl s)
    · exact refl s
  · exact refl s

theorem tellDecay (s : State) : Act s s.tellDecay := by
  unfold State.tellDecay
  dsimp only
  split <;> exact .beside rfl

theorem frameExpiry (s : State) : AnswersAct (execFrameExpiry s) s :=
  .next (.trans (.trans (.beside (t := s.startFrame) rfl) (tellDecay _)) (.beside rfl))

theorem buildEnd (s : State) : AnswersAct (execBuildEnd s) s := by
  refine .next ?_
  split
  · exact .ite (.beside rfl) (refl s)
  · exact refl s

theorem firstWordMarkEnd (s : State) : AnswersAct (execFirstWordMarkEnd s) s := by
  refine .next ?_
  split
  · exact .beside rfl
  · exact refl s

theorem eraseEnd (s : State) (u : FlashUpset) : AnswersAct (execEraseEnd u s) s := by
  refine .next ?_
  split
  · exact .beside rfl
  · exact refl s

theorem programEnd (s : State) (u : FlashUpset) : AnswersAct (execProgramEnd u s) s := by
  refine .next ?_
  split
  · exact .beside rfl
  · exact refl s

theorem verifyEnd (s : State) (u : FlashUpset) : AnswersAct (execVerifyEnd u s) s := by
  refine .next ?_
  split
  · exact .trans (.beside (by rfl)) (endOp _ _ _)
  · exact refl s

theorem recallReadEnd (s : State) (u : FlashUpset) : AnswersAct (execRecallReadEnd u s) s := by
  refine .next ?_
  split
  · exact endRecall s _ _
  · exact refl s

theorem sampleMemoryAccess (s : State) : AnswersAct (execSampleMemoryAccess s) s := by
  refine .next ?_
  split
  · exact .beside rfl
  · exact (servePort s .a).trans (.beside rfl)
  · exact (servePort s .b).trans (.beside rfl)
  · exact refl s

theorem frameBufferAccess (s : State) : AnswersAct (execFrameBufferAccess s) s := by
  refine .next ?_
  split
  · exact .beside rfl
  · exact (servePort s .a).trans (.beside rfl)
  · exact (servePort s .b).trans (.beside rfl)
  · exact refl s

end Act

open Act in
/-- Every command but a power-on reset is answered with a next state, by an act. -/
theorem exec_act (c : Instr) (s : State) (hc : ∀ st w u, c ≠ .powerOnReset st w u) : AnswersAct (exec c s) s :=
  match c with
  | .powerOnReset st w u => absurd rfl (hc st w u)
  | .portReset p => portReset s p
  | .abort p => .next (.ite (refl s) (abort s p))
  | .startWord p w => startWord s p w
  | .frameWord p w => frameWord s p w
  | .dataWord p w => dataWord s p w
  | .checkWord p w => checkWord s p w
  | .wordRead p => wordRead s p
  | .identify p => .onRequest fun _ => respond s p _ _
  | .getNotices p => .onRequest fun _ => .ite (respond s p _ _) (.beside rfl)
  | .setAttention p => .onRequest fun _ => .ite (respond s p _ _) (.beside rfl)
  | .setupRead p => .onRequest fun _ => .ite (respond s p _ _) (respond s p _ _)
  | .setupWrite p => setupWrite s p
  | .setupExchange p => setupExchange s p
  | .defaultSetup p => defaultSetup s p
  | .lock p => lock s p
  | .unlock p => unlock s p
  | .writeKeymap p => .onRequest fun _ => beginMap s p _ _
  | .writeKnobmap p => .onRequest fun _ => beginMap s p _ _
  | .writeLedmap p => .onRequest fun _ => beginMap s p _ _
  | .dataInCompletion p => dataInCompletion s p
  | .beep p => .onRequest fun _ => (setTone s _).trans (respond _ p _ _)
  | .triggerStatus p => .onRequest fun _ => respond s p _ _
  | .runControl p => runControlRequest s p
  | .runControlForce p => runControlForce s p
  | .hold p => holdRequest s p
  | .release p => releaseRequest s p
  | .readWaveform p => readWaveform s p
  | .segmentInfo p => segmentInfo s p
  | .showSegment p => showSegment s p
  | .clearDisplay p => .onRequest fun _ => .ite (respond s p _ _) ((clearDisplay s).trans (respond _ p _ _))
  | .writeOverlay p => .onRequest fun _ => .ite (respond s p _ _) (updPort s p _)
  | .fillOverlay p => .onRequest fun _ => .ite (respond s p _ _) (.beside rfl)
  | .writePalette p => .onRequest fun _ => .ite (respond s p _ _) (.beside rfl)
  | .readScreen _ => .onRequest fun _ => .beside rfl
  | .saveSetup p => .onRequest fun _ => .ite (respond s p _ _) (.ite (respond s p _ _) (.beside rfl))
  | .recallSetup p => recallSetup s p
  | .eraseSetup p => .onRequest fun _ => .ite (respond s p _ _) (.ite (respond s p _ _) (.beside rfl))
  | .setStartup p => .onRequest fun _ => .ite (respond s p _ _) (.ite (respond s p _ _) (.beside rfl))
  | .listSetups p => .onRequest fun _ => .ite (respond s p _ _) (respondOut s p _ _ _)
  | .setClock p => .onRequest fun _ => .ite (respond s p _ _) (.beside rfl)
  | .scanTick _ _ _ => .next ((takeDue s).trans (.beside rfl))
  | .keyPress k => .next (takePress s k)
  | .keyRelease k => .next (takeRelease s k)
  | .detent e cw => .next (takeDetent s e cw)
  | .toneExpiry => .next (setTone s _)
  | .ledPwmPeriod _ => .next (.beside rfl)
  | .echo w => echo s w
  | .echoTimeout => echoTimeout s
  | .settleExpiry n => settleExpiry s n
  | .keptSample _ _ _ _ ext => .next (.keptSample s _ ext)
  | .holdoffExpiry => .next (.beside rfl)
  | .autoTimerExpiry => autoTimerExpiry s
  | .trigOutPulseEnd => .next (.beside rfl)
  | .renderColumnStep => renderColumnStep s
  | .frameExpiry => frameExpiry s
  | .buildEnd => buildEnd s
  | .scanSectorReadEnd _ => .next (.ite (.beside rfl) (refl s))
  | .firstWordMarkEnd => firstWordMarkEnd s
  | .eraseEnd u => eraseEnd s u
  | .programEnd u => programEnd s u
  | .verifyEnd u => verifyEnd s u
  | .recallReadEnd u => recallReadEnd s u
  | .clockRise => .next (.beside rfl)
  | .probeCompEdge => .next (.beside rfl)
  | .prstRelease p => .next (updPort s p _)
  | .sampleMemoryAccess => sampleMemoryAccess s
  | .frameBufferAccess => frameBufferAccess s

/-- Settles O3, by the act that each command is; a power-on reset keeps the queue alone. -/
theorem everyCommandAnswers : Obligations.EveryCommandAnswers := by
  intro c s
  by_cases hc : ∀ st w u, c ≠ .powerOnReset st w u
  · obtain ⟨t, he, ha⟩ := exec_act c s hc
    exact ⟨t, he, ha.clock.1, fun _ => ha.clock.2⟩
  · simp only [not_forall, ne_eq, not_not] at hc
    obtain ⟨st, w, u, rfl⟩ := hc
    exact ⟨_, rfl, rfl, fun h => absurd rfl (h st w u)⟩

end Sys2Proof.Machine
end

section
/-!
SUPPORT. The front end: its channel records after one of them changes, what derived settings and frames are, and the law
of the front end (R49, R51 to R58) under each of its operations.
-/

namespace Sys2Proof.Machine

/-! ## Channel records and settings -/

theorem channelCount_eq (st : Straps) : channelCount st = if st.channels = .four then 4 else 2 := by
  obtain ⟨c, _, _⟩ := st
  cases c <;> rfl

/-- The record that is changed. -/
theorem FrontEnd.chan_updChan_self {f : FrontEnd} {n : Nat} (hn : 1 ≤ n) (hl : n ≤ f.chans.length)
    (g : ChanRec → ChanRec) : (f.updChan n g).chan n = g (f.chan n) := by
  simp only [FrontEnd.chan, FrontEnd.updChan, List.getD_eq_getElem?_getD, getElem?_updateAt]
  rw [List.getElem?_eq_getElem (by omega)]
  simp

/-- Every other channel's record. -/
theorem FrontEnd.chan_updChan_ne {f : FrontEnd} {n m : Nat} (hn : 1 ≤ n) (hm : 1 ≤ m) (h : m ≠ n)
    (g : ChanRec → ChanRec) : (f.updChan n g).chan m = f.chan m := by
  have hne : m - 1 ≠ n - 1 := by omega
  simp only [FrontEnd.chan, FrontEnd.updChan, List.getD_eq_getElem?_getD, getElem?_updateAt, if_neg hne]
  cases f.chans[m - 1]? <;> rfl

@[simp] theorem FrontEnd.length_updChan (f : FrontEnd) (n : Nat) (g : ChanRec → ChanRec) :
    (f.updChan n g).chans.length = f.chans.length := length_updateAt _ _ _

theorem FrontEnd.chan_of_getElem? {f : FrontEnd} {n : Nat} {c : ChanRec} (h : f.chans[n - 1]? = some c) :
    f.chan n = c := by
  rw [FrontEnd.chan, List.getD_eq_getElem?_getD, h]
  rfl

/-- The settings that the live fields give channel n (R50). -/
def Current (v : Nat → Int) (n : Nat) (g : Settings) : Prop :=
  SettingsOfFields g (v (8 * (n - 1) + 1)) (v (8 * (n - 1) + 3)) (v (8 * (n - 1) + 4))

theorem settingsOfFields_settingsOf (scale coupling bw : Int) :
    SettingsOfFields (settingsOf scale coupling bw) scale coupling bw := by
  unfold SettingsOfFields settingsOf scaleSettings
  by_cases h : scale ≤ 8
  · simp [h]
  · simp [h, not_le.1 h]

theorem current_deriveSettings (s : State) (n : Nat) : Current s.fieldVal n (s.deriveSettings n) :=
  settingsOfFields_settingsOf _ _ _

/-! ## The settled condition (R58) -/

/-- A channel is settled. -/
def IsSettled (c : ChanRec) : Prop := c.upd = .idle ∧ c.pendingLatest = false ∧ c.settle = none

theorem settled_iff (c : ChanRec) : c.settled = true ↔ IsSettled c := by
  simp [ChanRec.settled, IsSettled, and_assoc]

theorem frontSettled_iff (s : State) : FrontSettled s ↔ ∀ n, 1 ≤ n → n ≤ channelCount s.straps →
    s.fieldVal (8 * (n - 1)) = 1 → IsSettled (s.fe.chan n) := by
  rw [FrontSettled, channelCount_eq]
  rfl

theorem mem_enabledUnder {st : Straps} {v : Nat → Int} {n : Nat} :
    n ∈ enabledUnder st v ↔ 1 ≤ n ∧ n ≤ channelCount st ∧ v (8 * (n - 1)) = 1 := by
  simp only [enabledUnder, List.mem_filter, List.mem_map, List.mem_range, chanField, Nat.add_zero]
  constructor
  · rintro ⟨⟨k, hk, rfl⟩, hv⟩
    exact ⟨by omega, by omega, of_decide_eq_true hv⟩
  · rintro ⟨h1, h2, hv⟩
    exact ⟨⟨n - 1, by omega, by omega⟩, decide_eq_true hv⟩

theorem feSettled_iff (s : State) : s.feSettled = true ↔ FrontSettled s := by
  simp only [State.feSettled, List.all_eq_true, mem_enabledUnder, settled_iff, frontSettled_iff, and_imp]

/-! ## The law of the front end -/

/-- A channel's record agrees with the link and the live settings (R51, R52, R57, R58). -/
structure ChanAgrees (current : Settings → Prop) (link : Option Flight) (n : Nat) (c : ChanRec) : Prop where
  awaits : c.upd = .awaitEcho → ∃ f, link = some f ∧ f.chan = n
  pending : c.pendingLatest = true → c.upd = .awaitEcho
  settle : c.settle ≠ none → c.upd = .idle
  sent : c.upd = .awaitEcho → c.pendingLatest = false → current c.sent
  confirmed : c.upd = .idle → c.fault = true ∨ ∃ g, c.confirmed = some g ∧ current g

/-- The part of `SettledLaw` that speaks of the front end alone: every channel has a record, the link serves a channel
in AWAIT_ECHO, and every record agrees with it. -/
structure FrontLaw (st : Straps) (v : Nat → Int) (f : FrontEnd) : Prop where
  count : f.chans.length = channelCount st
  link : ∀ x, f.link = some x → 1 ≤ x.chan ∧ x.chan ≤ channelCount st ∧ (f.chan x.chan).upd = .awaitEcho
  chan : ∀ n, 1 ≤ n → n ≤ channelCount st → ChanAgrees (Current v n) f.link n (f.chan n)

/-- One channel's record changes while the link serves no other channel, before and after. -/
theorem FrontLaw.replace {st : Straps} {v : Nat → Int} {f g : FrontEnd} (h : FrontLaw st v f) {n : Nat}
    (hl : g.chans.length = f.chans.length) (ho : ∀ m, 1 ≤ m → m ≠ n → g.chan m = f.chan m)
    (hf : ∀ x, f.link = some x → x.chan = n)
    (hg : ∀ x, g.link = some x → x.chan = n ∧ 1 ≤ n ∧ n ≤ channelCount st ∧ (g.chan n).upd = .awaitEcho)
    (hc : ChanAgrees (Current v n) g.link n (g.chan n)) : FrontLaw st v g where
  count := hl.trans h.count
  link := fun x hx => by
    obtain ⟨rfl, h1, h2, hu⟩ := hg x hx
    exact ⟨h1, h2, hu⟩
  chan := fun m h1 h2 => by
    by_cases hm : m = n
    · exact hm ▸ hc
    · rw [ho m h1 hm]
      have k := h.chan m h1 h2
      exact ⟨fun hu => by
        obtain ⟨x, hx, rfl⟩ := k.awaits hu
        exact absurd (hf x hx) hm, k.pending, k.settle, k.sent, k.confirmed⟩

/-- The settle timers run down or stop (R57). -/
theorem FrontLaw.settle {st : Straps} {v : Nat → Int} {f g : FrontEnd} (h : FrontLaw st v f)
    (hl : g.chans.length = f.chans.length) (hk : g.link = f.link)
    (hc : ∀ m, ∃ o r, g.chan m = { f.chan m with settle := o, relayMoved := r }
      ∧ (o ≠ none → (f.chan m).settle ≠ none)) : FrontLaw st v g where
  count := hl.trans h.count
  link := fun x hx => by
    obtain ⟨o, r, e, -⟩ := hc x.chan
    obtain ⟨h1, h2, hu⟩ := h.link x (hk ▸ hx)
    exact ⟨h1, h2, by rw [e]; exact hu⟩
  chan := fun m h1 h2 => by
    obtain ⟨o, r, e, ho⟩ := hc m
    have k := h.chan m h1 h2
    rw [e, hk]
    exact ⟨k.awaits, k.pending, fun hs => k.settle (ho hs), k.sent, k.confirmed⟩

/-! ## Requests (R51) -/

theorem ChanRec.request_request (c : ChanRec) : c.request.request = c.request := by
  cases h : c.upd <;> simp [ChanRec.request, h]

@[simp] theorem FrontEnd.length_request (f : FrontEnd) (ns : List Nat) :
    (f.request ns).chans.length = f.chans.length := by
  induction ns generalizing f with
  | nil => rfl
  | cons n ns ih => exact (ih _).trans (FrontEnd.length_updChan f n _)

theorem FrontEnd.link_request (f : FrontEnd) (ns : List Nat) : (f.request ns).link = f.link := by
  induction ns generalizing f with
  | nil => rfl
  | cons n ns ih => exact ih _

/-- Each channel of a list takes one request, however often it is in the list. -/
theorem FrontEnd.chan_request {f : FrontEnd} {ns : List Nat} (hn : ∀ n ∈ ns, 1 ≤ n ∧ n ≤ f.chans.length) {m : Nat}
    (hm : 1 ≤ m) : (f.request ns).chan m = if m ∈ ns then (f.chan m).request else f.chan m := by
  induction ns generalizing f with
  | nil => simp [FrontEnd.request]
  | cons n ns ih =>
    obtain ⟨⟨h1, h2⟩, hns⟩ := List.forall_mem_cons.1 hn
    have step : (f.request (n :: ns)) = (f.updChan n ChanRec.request).request ns := rfl
    rw [step, ih (by simpa using hns)]
    by_cases hmn : m = n
    · subst hmn
      simp [FrontEnd.chan_updChan_self h1 h2, ChanRec.request_request]
    · simp [FrontEnd.chan_updChan_ne h1 hm hmn, hmn]

/-- A requested record agrees with whatever values are then live: it is WAITING, or a request is pending. -/
theorem ChanAgrees.request {p q : Settings → Prop} {link : Option Flight} {n : Nat} {c : ChanRec}
    (h : ChanAgrees p link n c) : ChanAgrees q link n c.request := by
  unfold ChanRec.request
  cases hu : c.upd with
  | idle => exact ⟨by simp, fun hp => by simpa [hu] using h.pending hp, by simp, by simp, by simp⟩
  | waiting =>
    exact ⟨by simp [hu], h.pending, h.settle, by simp [hu], by simp [hu]⟩
  | awaitEcho => exact ⟨fun _ => h.awaits hu, fun _ => rfl, fun k => by simpa [hu] using h.settle k, by simp, by simp⟩

theorem ChanRec.request_upd_awaitEcho {c : ChanRec} (h : c.upd = .awaitEcho) : c.request.upd = .awaitEcho := by
  simp [ChanRec.request, h]

/-- The law after the channels of a list have taken a request: it holds of every value map that leaves the settings of
the other channels as they were (R12, R51). -/
theorem FrontLaw.request {st : Straps} {v w : Nat → Int} {f : FrontEnd} (h : FrontLaw st v f) {ns : List Nat}
    (hn : ∀ n ∈ ns, 1 ≤ n ∧ n ≤ channelCount st)
    (hw : ∀ n, 1 ≤ n → n ≤ channelCount st → n ∉ ns → Current w n = Current v n) : FrontLaw st w (f.request ns) where
  count := (f.length_request ns).trans h.count
  link := fun x hx => by
    obtain ⟨h1, h2, hu⟩ := h.link x (f.link_request ns ▸ hx)
    refine ⟨h1, h2, ?_⟩
    rw [FrontEnd.chan_request (h.count ▸ hn) h1]
    split
    · exact ChanRec.request_upd_awaitEcho hu
    · exact hu
  chan := fun n h1 h2 => by
    have k := h.chan n h1 h2
    rw [FrontEnd.chan_request (h.count ▸ hn) h1, f.link_request]
    split
    · exact k.request
    · next hm => rw [hw n h1 h2 hm]; exact k

/-! ## The arbiter, confirmations and mismatches (R52, R54, R55) -/

/-- The channel that the arbiter finds is one of the part's and WAITING. -/
theorem FrontEnd.waiting_of_nextWaiting {f : FrontEnd} {n : Nat} (h : f.nextWaiting = some n) :
    1 ≤ n ∧ n ≤ f.chans.length ∧ (f.chan n).upd = .waiting := by
  have hw : (f.chan n).upd = .waiting := by simpa using List.find?_some h
  obtain ⟨k, hk, rfl⟩ := List.mem_map.1 (List.mem_of_find?_eq_some h)
  have hlt : (f.lastServed + k) % f.chans.length < f.chans.length :=
    Nat.mod_lt _ (by have := List.mem_range.1 hk; omega)
  exact ⟨by omega, by omega, hw⟩

/-- A record that takes no part in a settled front end: changing it unsettles nothing. -/
theorem isSettled_updChan {f : FrontEnd} {n : Nat} (h1 : 1 ≤ n) {g : ChanRec → ChanRec}
    (hu : (f.chan n).upd ≠ .idle) {m : Nat} (hm : 1 ≤ m) (hs : IsSettled (f.chan m)) :
    IsSettled ((f.updChan n g).chan m) := by
  rw [FrontEnd.chan_updChan_ne h1 hm]
  · exact hs
  · rintro rfl
    exact hu hs.1

/-- A frame is sent for channel n, which is to wait for its echo with the live settings. -/
theorem FrontLaw.send {st : Straps} {v : Nat → Int} {f : FrontEnd} (h : FrontLaw st v f) {n : Nat} (h1 : 1 ≤ n)
    (h2 : n ≤ channelCount st) (hf : ∀ x, f.link = some x → x.chan = n) {w : Settings} (hw : Current v n w)
    {g : ChanRec → ChanRec} (hu : (g (f.chan n)).upd = .awaitEcho) (hs : (g (f.chan n)).sent = w)
    (ht : (g (f.chan n)).settle = none) : FrontLaw st v (f.send n w g) := by
  have hc : (f.send n w g).chan n = g (f.chan n) := FrontEnd.chan_updChan_self h1 (h.count ▸ h2) g
  refine h.replace (n := n) (f.length_updChan n g) (fun m hm hne => FrontEnd.chan_updChan_ne h1 hm hne g) hf
    (fun x hx => ?_) ?_
  · obtain rfl : _ = x := Option.some.inj hx
    exact ⟨rfl, h1, h2, hc ▸ hu⟩
  · rw [hc]
    exact ⟨fun _ => ⟨_, rfl, rfl⟩, fun _ => hu, fun k => absurd ht k, fun _ _ => hs ▸ hw, fun k => by simp [hu] at k⟩

/-- The update of channel n ends, and the link is FREE. -/
theorem FrontLaw.free {st : Straps} {v : Nat → Int} {f : FrontEnd} (h : FrontLaw st v f) {x : Flight}
    (hx : f.link = some x) {g : ChanRec → ChanRec}
    (hg : ChanAgrees (Current v x.chan) none x.chan (g (f.chan x.chan))) :
    FrontLaw st v { f.updChan x.chan g with link := none, echoTimer := none } := by
  obtain ⟨h1, h2, -⟩ := h.link x hx
  refine h.replace (n := x.chan) (f.length_updChan _ g) (fun m hm hne => FrontEnd.chan_updChan_ne h1 hm hne g)
    (fun y hy => ?_) (by simp) ?_
  · rw [hx] at hy
    rw [Option.some.inj hy]
  · change ChanAgrees _ none _ ((f.updChan x.chan g).chan x.chan)
    rwa [FrontEnd.chan_updChan_self h1 (h.count ▸ h2)]

theorem ChanAgrees.confirm {p : Settings → Prop} {link : Option Flight} {n : Nat} {c : ChanRec}
    (h : ChanAgrees p link n c) (hu : c.upd = .awaitEcho) : ChanAgrees p none n c.confirm := by
  cases hp : c.pendingLatest with
  | false =>
    exact ⟨by simp [ChanRec.confirm, hp], by simp [ChanRec.confirm], by simp [ChanRec.confirm, hp],
      by simp [ChanRec.confirm, hp], fun _ => .inr ⟨c.sent, rfl, h.sent hu hp⟩⟩
  | true =>
    exact ⟨by simp [ChanRec.confirm, hp], by simp [ChanRec.confirm], by simp [ChanRec.confirm, hp],
      by simp [ChanRec.confirm, hp], by simp [ChanRec.confirm, hp]⟩

/-- No settle time runs while a channel waits for its echo (R57). -/
theorem ChanAgrees.settle_none {p : Settings → Prop} {link : Option Flight} {n : Nat} {c : ChanRec}
    (h : ChanAgrees p link n c) (hu : c.upd ≠ .idle) : c.settle = none := by
  by_contra k
  exact hu (h.settle k)

theorem ChanAgrees.fail {p : Settings → Prop} {link : Option Flight} {n : Nat} {c : ChanRec}
    (h : ChanAgrees p link n c) (hu : c.upd = .awaitEcho) : ChanAgrees p none n c.fail := by
  have hs : c.settle = none := h.settle_none (by simp [hu])
  cases hp : c.pendingLatest <;>
    exact ⟨by simp [ChanRec.fail, hp], by simp [ChanRec.fail], by simp [ChanRec.fail, hs],
      by simp [ChanRec.fail, hp], by simp [ChanRec.fail]⟩

end Sys2Proof.Machine
end

section
/-!
SUPPORT. The law that the channel records, the link and the filling segment agree (R49 to R58, R88, R93), with the part
of R84 and R93 that it rests on, under arms, run modes, completion and samples.
-/

namespace Sys2Proof.Machine

/-! ## The invariant -/

/-- No segment is FILLING. -/
def NoFilling (a : Acq) : Prop := ∀ i, (a.seg i).state ≠ .filling

/-- What holds all through an act: the records' form, one setup record for each present field, and the law of the front
end. -/
structure Grounded (s : State) : Prop where
  wf : Cells.wf Seg.blank s.acq.segs = true
  ids : s.setup.recs.map (·.id) = presentIds s.straps
  front : FrontLaw s.straps s.fieldVal s.fe

/-- The part of `AcqLaw` that speaks of STOP and of the filling segment (R84, R93). -/
structure FillingOne (a : Acq) : Prop where
  mode : a.mode = .stop ↔ a.state = .stopped
  filling : (∃ i, (a.seg i).state = .filling) ↔ a.state.fills = true
  unique : ∀ i j, (a.seg i).state = .filling → (a.seg j).state = .filling → i = j

/-- What `SettledLaw` says, with the premises it rests on. -/
structure SettledInv (s : State) : Prop extends Grounded s where
  one : FillingOne s.acq
  settled : s.acq.state.fills = true → FrontSettled s
  snap : ∀ i, (s.acq.seg i).state = .filling → (s.acq.snapOf (s.acq.seg i)).vals = liveAcqValues s

/-- An arm may begin: nothing is FILLING, and the run mode is not STOP. -/
structure MayArm (s : State) : Prop extends Grounded s where
  none : NoFilling s.acq
  mode : s.acq.mode ≠ .stop

theorem fills_iff (x : AcqState) : x.fills = true ↔ x = .pretrig ∨ x = .ready ∨ x = .posttrig := by
  cases x <;> simp [AcqState.fills]

theorem fillingOne_of_acqLaw {s : State} (h : AcqLaw s) : FillingOne s.acq := by
  obtain ⟨hm, hf, hu, -⟩ := h
  exact ⟨hm, hf.trans (fills_iff _).symm, hu⟩

theorem settledLaw_iff (s : State) : SettledLaw s ↔ FrontLaw s.straps s.fieldVal s.fe
    ∧ (s.acq.state.fills = true → FrontSettled s)
    ∧ ∀ i, (s.acq.seg i).state = .filling → (s.acq.snapOf (s.acq.seg i)).vals = liveAcqValues s := by
  unfold SettledLaw
  rw [← channelCount_eq, fills_iff]
  constructor
  · rintro ⟨hc, hl, ha, hs, hn⟩
    refine ⟨⟨hc, hl, fun n h1 h2 => ?_⟩, hs, hn⟩
    obtain ⟨k1, k2, k3, k4, k5⟩ := ha n h1 h2
    exact ⟨k1, k2, k3, k4, k5⟩
  · rintro ⟨⟨hc, hl, ha⟩, hs, hn⟩
    refine ⟨hc, hl, fun n h1 h2 => ?_, hs, hn⟩
    obtain ⟨k1, k2, k3, k4, k5⟩ := ha n h1 h2
    exact ⟨k1, k2, k3, k4, k5⟩

theorem settledInv_of_laws {s : State} (hm : MemoryLaw s) (ha : AcqLaw s) (hs : SetupLaw s) (h : SettledLaw s) :
    SettledInv s := by
  obtain ⟨hf, hst, hsn⟩ := (settledLaw_iff s).1 h
  exact ⟨⟨hm.1, hs.1, hf⟩, fillingOne_of_acqLaw ha, hst, hsn⟩

theorem SettledInv.law {s : State} (h : SettledInv s) : SettledLaw s :=
  (settledLaw_iff s).2 ⟨h.front, h.settled, h.snap⟩

/-! ## What the invariant looks at -/

theorem fieldVal_congr {s t : State} (h : t.setup.recs = s.setup.recs) : t.fieldVal = s.fieldVal := by
  funext id
  simp only [State.fieldVal, Setup.val, h]

theorem Grounded.congr {s t : State} (h : Grounded s) (hs : t.straps = s.straps)
    (hr : t.setup.recs = s.setup.recs) (hf : t.fe = s.fe) (hw : Cells.wf Seg.blank t.acq.segs = true) : Grounded t :=
  ⟨hw, by rw [hr, hs]; exact h.ids, by rw [hs, fieldVal_congr hr, hf]; exact h.front⟩

theorem frontSettled_congr {s t : State} (hs : t.straps = s.straps) (hr : t.setup.recs = s.setup.recs)
    (hf : t.fe = s.fe) : FrontSettled t ↔ FrontSettled s := by
  rw [frontSettled_iff, frontSettled_iff, hs, fieldVal_congr hr, hf]

theorem liveAcqValues_congr {s t : State} (hs : t.straps = s.straps) (hr : t.setup.recs = s.setup.recs) :
    liveAcqValues t = liveAcqValues s := by
  rw [liveAcqValues, liveAcqValues, hs, fieldVal_congr hr]

theorem Grounded.kept {s t : State} (h : Grounded s) (k : FillKept s t) : Grounded t :=
  h.congr k.straps k.recs k.fe (k.acq.wf h.wf)

theorem NoFilling.kept {a b : Acq} (h : NoFilling a) (hw : Cells.wf Seg.blank a.segs = true) (k : AcqKept a b) :
    NoFilling b := fun i hi => h i ((k.seg hw i).1.1 hi)

theorem MayArm.kept {s t : State} (h : MayArm s) (k : FillKept s t) : MayArm t :=
  ⟨h.toGrounded.kept k, h.none.kept h.wf k.acq, fun hm => h.mode (k.acq.mode.1 hm)⟩

theorem AcqKept.fills {a b : Acq} (k : AcqKept a b) : b.state.fills = a.state.fills := by
  rcases k.state with e | ⟨p, q⟩
  · rw [e]
  · rw [p, q]

theorem FillingOne.kept {a b : Acq} (h : FillingOne a) (hw : Cells.wf Seg.blank a.segs = true) (k : AcqKept a b) :
    FillingOne b where
  mode := by
    rcases k.state with e | ⟨p, q⟩
    · rw [k.mode, e, h.mode]
    · have ha : a.state ≠ .stopped := fun e => by rw [e] at p; simp [AcqState.fills] at p
      have hb : b.state ≠ .stopped := fun e => by rw [e] at q; simp [AcqState.fills] at q
      simp [k.mode, h.mode, ha, hb]
  filling := by
    rw [k.fills, ← h.filling]
    exact exists_congr fun i => (k.seg hw i).1
  unique := fun i j hi hj => h.unique i j ((k.seg hw i).1.1 hi) ((k.seg hw j).1.1 hj)

theorem SettledInv.kept {s t : State} (h : SettledInv s) (k : FillKept s t) : SettledInv t where
  toGrounded := h.toGrounded.kept k
  one := h.one.kept h.wf k.acq
  settled := fun hf => (frontSettled_congr k.straps k.recs k.fe).2 (h.settled (k.acq.fills ▸ hf))
  snap := fun i hi => by
    obtain ⟨hs, hn⟩ := k.acq.seg h.wf i
    have := h.snap i (hs.1 hi)
    rw [liveAcqValues_congr k.straps k.recs, ← this, Acq.snapOf, Acq.snapOf, hn (hs.1 hi)]
    split
    · exact k.acq.vals _
    · rfl

/-- With nothing FILLING the invariant asks for no more than the acquisition's state. -/
theorem Grounded.settledInv {s : State} (h : Grounded s) (hn : NoFilling s.acq)
    (hm : s.acq.mode = .stop ↔ s.acq.state = .stopped) (hf : s.acq.state.fills = false) : SettledInv s :=
  ⟨h, ⟨hm, ⟨fun ⟨i, hi⟩ => absurd hi (hn i), fun k => by simp [hf] at k⟩, fun i _ hi => absurd hi (hn i)⟩,
    fun k => by simp [hf] at k, fun i hi => absurd hi (hn i)⟩

theorem FillingOne.noFilling {a : Acq} (h : FillingOne a) (hf : a.state.fills = false) : NoFilling a :=
  fun i hi => by simpa [hf] using h.filling.1 ⟨i, hi⟩

/-- In a state that waits to arm, an arm may begin. -/
theorem SettledInv.mayArm {s : State} (h : SettledInv s) (hs : s.acq.state = .waitSegment ∨ s.acq.state = .settling) :
    MayArm s := by
  refine ⟨h.toGrounded, h.one.noFilling ?_, fun hm => ?_⟩
  · rcases hs with e | e <;> rw [e] <;> rfl
  · have := h.one.mode.1 hm
    rcases hs with e | e <;> simp [e] at this

/-! ## Arming -/

theorem vals_fillEntry {s : State} {e : Nat} {snaps : List Snap} (h : s.fillEntry = some (e, snaps)) :
    (snaps.getD e Snap.initial).vals = s.liveAcq := by
  obtain ⟨k, hk, he⟩ := Option.map_eq_some_iff.1 h
  obtain ⟨rfl, rfl⟩ := Prod.mk.inj he
  have hlt : k < s.acq.snaps.length := List.mem_range.1 (List.mem_of_find?_eq_some hk)
  simp only [List.getD_eq_getElem?_getD, getElem?_updateAt, List.getElem?_eq_getElem hlt]
  simp

/-- The entry that a segment's snapshot takes holds the live values (R88). -/
theorem vals_obtain {s : State} {e : Nat} {snaps : List Snap} (h : s.obtain = some (e, snaps)) :
    (snaps.getD e Snap.initial).vals = s.liveAcq := by
  unfold State.obtain at h
  split at h
  · split at h
    · next hv =>
      obtain ⟨rfl, rfl⟩ := Prod.mk.inj (Option.some.inj h)
      exact hv
    · exact vals_fillEntry h
  · exact vals_fillEntry h

theorem fillKept_reuseCurrent {s : State} (h : NoFilling s.acq) : FillKept s s.reuseCurrent := by
  unfold State.reuseCurrent
  split
  · exact .refl s
  · split
    · exact .ite (fillKept_freeSeg (h _)) (.refl s)
    · exact .refl s

/-- The record with which a segment enters FILLING by entry e of the table `snaps` (R93). -/
def State.enteredSeg (s : State) (e : Nat) (snaps : List Snap) : Seg :=
  let g : Seg := { Seg.blank with state := .filling, snap := some e }
  let a := { s.acq with snaps := updateAt snaps e fun n => { n with refs := n.refs + 1 }, newest := some e }
  { g with
    p := pretrigOf (a.segLength g) (a.snapVal g fidTrigPosition)
    fault := chanBits ((a.segChannels g).filter s.fe.faulted.contains) }

/-- Segment i has just entered FILLING; the passage to READY of one with no pretrigger part is still to come. -/
def State.entered (s : State) (i e : Nat) (snaps : List Snap) : State :=
  { s with
    acq := { s.acq with
      segs := Cells.put Seg.blank s.acq.segs i (s.enteredSeg e snaps)
      snaps := updateAt snaps e fun n => { n with refs := n.refs + 1 }
      newest := some e
      state := .pretrig
      nextSlot := if i + 1 = s.slots then 0 else i + 1
      fillCount := 0
      postCount := 0
      decim := some 1 }
    trig := s.trig.clearTracking }

theorem enterFilling_eq (s : State) (i e : Nat) (snaps : List Snap) : s.enterFilling i e snaps
    = if (s.enteredSeg e snaps).p = 0 then (s.entered i e snaps).passToReady else s.entered i e snaps := rfl

theorem seg_entered {s : State} (h : Cells.wf Seg.blank s.acq.segs = true) (i e : Nat) (snaps : List Snap) (j : Nat) :
    (s.entered i e snaps).acq.seg j = if j = i then s.enteredSeg e snaps else s.acq.seg j := Acq.seg_put h i _ j

/-- The entry that a segment takes keeps its values as it is taken. -/
theorem snapOf_entered (s : State) (i e : Nat) (snaps : List Snap) {g : Seg} (hg : g.snap = some e) :
    ((s.entered i e snaps).acq.snapOf g).vals = (snaps.getD e Snap.initial).vals := by
  simp only [Acq.snapOf, hg, State.entered, List.getD_eq_getElem?_getD, getElem?_updateAt]
  cases snaps[e]? <;> simp

/-- The entry into FILLING (R93): the one segment that fills has the live values for its snapshot, and the front end is
settled. -/
theorem MayArm.enterFilling {s : State} (h : MayArm s) (hs : FrontSettled s) (i : Nat) {e : Nat} {snaps : List Snap}
    (hv : (snaps.getD e Snap.initial).vals = s.liveAcq) : SettledInv (s.enterFilling i e snaps) := by
  have fills (j : Nat) : ((s.entered i e snaps).acq.seg j).state = .filling ↔ j = i := by
    rw [seg_entered h.wf]
    split
    · next hj => simp [hj, State.enteredSeg]
    · next hj => simp [hj, h.none j]
  have entered : SettledInv (s.entered i e snaps) := by
    refine ⟨h.toGrounded.congr rfl rfl rfl (Cells.wf_put h.wf i _), ⟨?_, ?_, ?_⟩, ?_, ?_⟩
    · simp [State.entered, h.mode]
    · simp only [fills]
      exact ⟨fun _ => rfl, fun _ => ⟨i, rfl⟩⟩
    · intro j k hj hk
      rw [(fills j).1 hj, (fills k).1 hk]
    · exact fun _ => (frontSettled_congr rfl rfl rfl).2 hs
    · intro j hj
      rw [seg_entered h.wf, if_pos ((fills j).1 hj), snapOf_entered s i e snaps rfl, hv]
      rfl
  rw [enterFilling_eq]
  split
  · exact entered.kept (fillKept_passToReady rfl)
  · exact entered

/-- Every arm leaves the invariant (R58, R84, R89). -/
theorem MayArm.arm {s : State} (h : MayArm s) : SettledInv s.arm := by
  have waits {t : State} (k : MayArm t) (x : AcqState) (hx : x = .settling ∨ x = .waitSegment) :
      SettledInv { t with acq := { t.acq with state := x } } := by
    refine Grounded.settledInv (k.toGrounded.congr rfl rfl rfl k.wf) k.none ?_ ?_
    · rcases hx with rfl | rfl <;> simp [k.mode]
    · rcases hx with rfl | rfl <;> rfl
  unfold State.arm
  split
  · next hs =>
    have hr := fillKept_reuseCurrent h.none
    have hset := (frontSettled_congr hr.straps hr.recs hr.fe).2 ((feSettled_iff s).1 hs)
    unfold State.slotChoice
    dsimp only
    split
    · next ho => exact (h.kept hr).enterFilling hset _ (vals_obtain ho)
    · exact waits (h.kept hr) _ (.inr rfl)
  · exact waits h _ (.inl rfl)

theorem SettledInv.retryWait {s : State} (h : SettledInv s) : SettledInv s.retryWait := by
  unfold State.retryWait
  split
  · next hs => exact (h.mayArm (.inl hs)).arm
  · exact h

theorem SettledInv.tellSettled {s : State} (h : SettledInv s) : SettledInv s.tellSettled := by
  unfold State.tellSettled
  split
  · next hs => exact (h.mayArm (.inr hs)).arm
  · exact h

theorem SettledInv.finishAct {s : State} (h : SettledInv s) : SettledInv s.finishAct :=
  (h.kept (fillKept_resume s)).retryWait

/-! ## Run modes -/

/-- Where at most one segment is FILLING, none is once it is abandoned (R101). -/
theorem noFilling_abandonFilling {s : State} (hw : Cells.wf Seg.blank s.acq.segs = true)
    (hu : ∀ i j, (s.acq.seg i).state = .filling → (s.acq.seg j).state = .filling → i = j) :
    NoFilling s.abandonFilling.acq := by
  unfold State.abandonFilling
  cases hi : s.acq.fillingIdx with
  | none => exact Acq.not_filling_of_fillingIdx hi
  | some i =>
    intro j hj
    have hseg : (s.freeSeg i).acq.seg j = if j = i then Seg.blank else s.acq.seg j := Acq.seg_put hw i _ j
    change ((s.freeSeg i).acq.seg j).state = .filling at hj
    rw [hseg] at hj
    split at hj
    · simp [Seg.blank] at hj
    · next hne => exact hne (hu j i hj (Acq.filling_of_fillingIdx hw hi))

theorem Grounded.abandonFilling {s : State} (h : Grounded s) : Grounded s.abandonFilling := by
  unfold State.abandonFilling
  split
  · exact h.congr rfl rfl rfl (Cells.wf_put h.wf _ _)
  · exact h.congr rfl rfl rfl h.wf

theorem mode_abandonFilling (s : State) : s.abandonFilling.acq.mode = s.acq.mode := by
  unfold State.abandonFilling
  split <;> rfl

theorem SettledInv.noFilling_enterStop {s : State} (h : SettledInv s) : NoFilling s.enterStop.acq :=
  noFilling_abandonFilling h.wf h.one.unique

theorem SettledInv.enterStop {s : State} (h : SettledInv s) : SettledInv s.enterStop :=
  Grounded.settledInv (h.toGrounded.abandonFilling.congr rfl rfl rfl h.toGrounded.abandonFilling.wf)
    h.noFilling_enterStop ⟨fun _ => rfl, fun _ => rfl⟩ rfl

/-- The run mode leaves STOP with nothing FILLING: an arm may begin. -/
theorem mayArm_setMode {s : State} (h : Grounded s) (hn : NoFilling s.acq) {m : RunMode} (hm : m ≠ .stop) :
    MayArm (s.clearChanged.setMode m) := ⟨h.congr rfl rfl rfl h.wf, hn, hm⟩

theorem SettledInv.noFilling_of_stop {s : State} (h : SettledInv s) (hm : s.acq.mode = .stop) : NoFilling s.acq :=
  h.one.noFilling (by rw [h.one.mode.1 hm]; rfl)

theorem SettledInv.toActive {s : State} (h : SettledInv s) {m : RunMode} (hm : m ≠ .stop) :
    SettledInv (s.toActive m) := by
  unfold State.toActive
  split
  · next hs =>
    exact (((mayArm_setMode h.toGrounded (h.noFilling_of_stop hs) hm).kept (fillKept_emptySequence _)).kept
      (fillKept_resume _)).arm
  · next hs =>
    exact ((h.kept (fillKept_setMode (by simp [hm, hs]))).kept (fillKept_emptySequence _)).finishAct

theorem SettledInv.toSequence {s : State} (h : SettledInv s) : SettledInv s.toSequence := by
  have stopped : Grounded (if s.acq.mode = .stop then s else s.enterStop)
      ∧ NoFilling (if s.acq.mode = .stop then s else s.enterStop).acq := by
    split
    · next hs => exact ⟨h.toGrounded, h.noFilling_of_stop hs⟩
    · exact ⟨h.enterStop.toGrounded, h.noFilling_enterStop⟩
  exact (((mayArm_setMode stopped.1 stopped.2 (by simp)).kept (fillKept_startSequence _)).kept (fillKept_resume _)).arm

theorem SettledInv.runControl {s : State} (h : SettledInv s) (m : RunMode) : SettledInv (s.runControl m) := by
  unfold State.runControl
  split
  · exact h
  · cases m with
    | stop => exact h.enterStop
    | run => exact h.toActive (by simp)
    | single => exact h.toActive (by simp)
    | sequence => exact h.toSequence

/-! ## Completion and samples -/

/-- Once the filling segment is COMPLETE and announced, an arm may begin (R97). -/
theorem SettledInv.announce {s : State} (h : SettledInv s) {i : Nat} (hi : (s.acq.seg i).state = .filling) :
    MayArm (s.announce i) := by
  have hm : s.acq.mode ≠ .stop := fun k => by
    have := h.one.filling.1 ⟨i, hi⟩
    rw [h.one.mode.1 k] at this
    simp [AcqState.fills] at this
  have completed : MayArm { s with acq := { s.acq with
      counter := s.acq.counter + 1
      segs := Cells.put Seg.blank s.acq.segs i
        { s.seg i with state := .complete, seq := s.acq.counter + 1, ovr := chanBits (s.acq.overrange i) }
      decim := none, fillCount := 0, postCount := 0 } } := by
    refine ⟨h.toGrounded.congr rfl rfl rfl (Cells.wf_put h.wf _ _), fun j hj => ?_, hm⟩
    change (Cells.get Seg.blank (Cells.put Seg.blank s.acq.segs i _) j).state = .filling at hj
    rw [Acq.seg_put h.wf] at hj
    split at hj
    · simp at hj
    · next hne => exact hne (h.one.unique j i hj hi)
  have handed (t : State) : FillKept t (t.handCompleted i) := by
    unfold State.handCompleted
    exact .ite (.refl t) ((fillKept_handOff t i).trans (fillKept_resume _))
  exact ((completed.kept (fillKept_makeCurrent _ i)).kept (handed _)).kept (.beside rfl)

theorem MayArm.endRun {s : State} (h : MayArm s) : SettledInv s.endRun :=
  Grounded.settledInv (h.toGrounded.congr rfl rfl rfl h.wf) h.none ⟨fun _ => rfl, fun _ => rfl⟩ rfl

theorem MayArm.continueSequence {s : State} (h : MayArm s) (i : Nat) : SettledInv (s.continueSequence i) := by
  have joined : MayArm { s with acq := { s.acq with
      seqList := s.acq.seqList ++ [i], seqCount := s.acq.seqCount + 1 } } :=
    ⟨h.toGrounded.congr rfl rfl rfl h.wf, h.none, h.mode⟩
  unfold State.continueSequence
  dsimp only
  split
  · exact (((joined.kept (fillKept_handOff _ i)).kept (fillKept_resume _)).kept (fillKept_post _ _)).endRun
  · exact joined.arm

theorem SettledInv.complete {s : State} (h : SettledInv s) {i : Nat} (hi : (s.acq.seg i).state = .filling) :
    SettledInv (s.complete i) := by
  have ha := h.announce hi
  unfold State.complete
  split
  · exact ha.endRun.finishAct
  · exact (ha.continueSequence i).finishAct
  · exact ha.arm.finishAct

theorem SettledInv.postSample {s : State} (h : SettledInv s) {i : Nat} (hi : (s.acq.seg i).state = .filling)
    (cs : List Byte) : SettledInv (s.postSample i cs) := by
  have timed : FillKept s (if s.acq.postCount = 0 then s.setSeg i { s.seg i with time := s.baseTick } else s) :=
    .ite (fillKept_setSeg (.of_eq rfl rfl)) (.refl s)
  have counted (t : State) (n : Nat) : FillKept t { t with acq := { t.acq with postCount := n } } :=
    .of_acq rfl ⟨Iff.rfl, .inl rfl, id, fun _ _ => .refl _, fun _ => rfl⟩
  have done {t : State} (k : FillKept s t) : SettledInv (t.complete i) :=
    (h.kept k).complete ((k.acq.seg h.wf i).1.2 hi)
  unfold State.postSample
  dsimp only
  split
  · exact done timed
  · have written := (timed.trans (fillKept_writeSample _ i ((s.seg i).p + s.acq.postCount) cs)).trans
      (counted _ (s.acq.postCount + 1))
    split
    · exact done written
    · exact h.kept written

theorem SettledInv.keptSample {s : State} (h : SettledInv s) (cs : List Byte) (ext : Bool) :
    SettledInv (s.keptSample cs ext) := by
  unfold State.keptSample
  split
  · next i hi =>
    have hfill := Acq.filling_of_fillingIdx h.wf hi
    have tracked := fillKept_tracked s i cs ext
    have posted {t : State} (k : FillKept s t) : SettledInv (t.postSample i cs) :=
      (h.kept k).postSample ((k.acq.seg h.wf i).1.2 hfill) cs
    unfold State.takeSample
    split
    · next hs => exact (h.kept tracked).kept (fillKept_pretrigSample (by simp [State.tracked, hs, AcqState.fills]) i cs)
    · next hs =>
      split
      · exact posted (tracked.trans (fillKept_takeTrigger (by simp [State.tracked, hs, AcqState.fills]) false))
      · exact (h.kept tracked).kept (fillKept_overwriteOldest _ i cs)
    · exact posted tracked
    · exact h
  · exact h

end Sys2Proof.Machine
end

section
/-!
SUPPORT. The invariant of `SettledLaw` under the front end's events, an applied change, a power-on reset and a base
tick; and the statement that every step keeps it.
-/

namespace Sys2Proof.Machine

/-! ## The front end's events -/

/-- The front end alone has moved, by its law, and no settled channel is unsettled. -/
theorem SettledInv.frontEnd {s : State} (h : SettledInv s) {f : FrontEnd} (hf : FrontLaw s.straps s.fieldVal f)
    (hs : ∀ m, 1 ≤ m → IsSettled (s.fe.chan m) → IsSettled (f.chan m)) : SettledInv { s with fe := f } where
  toGrounded := ⟨h.wf, h.ids, hf⟩
  one := h.one
  settled := fun hfill n h1 h2 hon => hs n h1 (h.settled hfill n h1 h2 hon)
  snap := h.snap

theorem SettledInv.confirm {s : State} (h : SettledInv s) {x : Flight} (hx : s.fe.link = some x) :
    SettledInv (s.feConfirm x.chan) := by
  obtain ⟨h1, h2, hu⟩ := h.front.link x hx
  exact h.frontEnd (h.front.free hx ((h.front.chan _ h1 h2).confirm hu)) fun m hm hs =>
    isSettled_updChan h1 (by simp [hu]) hm hs

theorem fillKept_flagFault (s : State) (n : Nat) : FillKept s (s.flagFault n) := by
  unfold State.flagFault
  split
  · exact .ite (fillKept_setSeg (.of_eq rfl rfl)) (.refl s)
  · exact .refl s

theorem SettledInv.mismatch {s : State} (h : SettledInv s) {x : Flight} (hx : s.fe.link = some x) :
    SettledInv (s.feMismatch x.chan) := by
  obtain ⟨h1, h2, hu⟩ := h.front.link x hx
  have k := h.front.chan _ h1 h2
  have settled (g : ChanRec → ChanRec) (m : Nat) (hm : 1 ≤ m) (hs : IsSettled (s.fe.chan m)) :
      IsSettled ((s.fe.updChan x.chan g).chan m) := isSettled_updChan h1 (by simp [hu]) hm hs
  have served (y : Flight) (hy : s.fe.link = some y) : y.chan = x.chan := by
    rw [hx] at hy
    rw [Option.some.inj hy]
  unfold State.feMismatch
  split
  · exact h.frontEnd (h.front.send h1 h2 served (current_deriveSettings s _) rfl rfl (k.settle_none (by simp [hu])))
      (settled _)
  · exact ((h.frontEnd (h.front.free hx (k.fail hu)) (settled _)).kept (fillKept_flagFault _ _)).kept
      (fillKept_post _ _)

/-- The arbiter keeps the law of the front end, and unsettles nothing (R52). -/
theorem frontLaw_feArbitrate {s : State} (h : FrontLaw s.straps s.fieldVal s.fe) :
    FrontLaw s.straps s.fieldVal s.feArbitrate.fe
      ∧ ∀ m, 1 ≤ m → IsSettled (s.fe.chan m) → IsSettled (s.feArbitrate.fe.chan m) := by
  unfold State.feArbitrate
  split
  · next n hl hn =>
    obtain ⟨h1, h2, hu⟩ := FrontEnd.waiting_of_nextWaiting hn
    rw [h.count] at h2
    have k := h.chan n h1 h2
    exact ⟨h.send h1 h2 (by simp [hl]) (current_deriveSettings s n) rfl rfl (k.settle_none (by simp [hu])),
      fun m hm hs => isSettled_updChan h1 (by simp [hu]) hm hs⟩
  · exact ⟨h, fun _ _ hs => hs⟩

theorem feArbitrate_eq (s : State) : s.feArbitrate = { s with fe := s.feArbitrate.fe } := by
  unfold State.feArbitrate
  split <;> rfl

theorem SettledInv.arbitrate {s : State} (h : SettledInv s) : SettledInv s.feArbitrate := by
  obtain ⟨hf, hs⟩ := frontLaw_feArbitrate h.front
  rw [feArbitrate_eq]
  exact h.frontEnd hf hs

/-- The settle timers run down or stop, and every settled channel stays so. -/
theorem SettledInv.settle {s : State} (h : SettledInv s) {f : FrontEnd} (hl : f.chans.length = s.fe.chans.length)
    (hk : f.link = s.fe.link) (hc : ∀ m, ∃ o r, f.chan m = { s.fe.chan m with settle := o, relayMoved := r }
      ∧ (o ≠ none → (s.fe.chan m).settle ≠ none)) : SettledInv { s with fe := f } := by
  refine h.frontEnd (h.front.settle hl hk hc) fun m _ ⟨hu, hp, hs⟩ => ?_
  obtain ⟨o, r, e, ho⟩ := hc m
  rw [e]
  exact ⟨hu, hp, by by_contra k; exact ho k hs⟩

theorem SettledInv.expire {s : State} (h : SettledInv s) (n : Nat) :
    SettledInv { s with fe := s.fe.updChan n ChanRec.expire } := by
  refine h.settle (FrontEnd.length_updChan _ _ _) rfl fun m => ?_
  simp only [FrontEnd.chan, FrontEnd.updChan, List.getD_eq_getElem?_getD, getElem?_updateAt]
  cases s.fe.chans[m - 1]? with
  | none => exact ⟨_, _, rfl, id⟩
  | some c =>
    simp only [Option.map_some, Option.getD_some]
    split
    · exact ⟨none, false, rfl, fun k => absurd rfl k⟩
    · exact ⟨c.settle, c.relayMoved, rfl, id⟩

theorem SettledInv.congr {s t : State} (h : SettledInv s) (hs : t.straps = s.straps)
    (hr : t.setup.recs = s.setup.recs) (hf : t.fe = s.fe)
    (ha : AcqKept s.acq t.acq) : SettledInv t :=
  let u : State := { t with pending := s.pending, baseTick := s.baseTick }
  have hu : SettledInv u := h.kept ⟨rfl, hs, rfl, hr, hf, ha⟩
  ⟨⟨hu.wf, hu.ids, hu.front⟩, hu.one, hu.settled, hu.snap⟩

theorem SettledInv.tick {s : State} (h : SettledInv s) : SettledInv s.tick := by
  have timers : SettledInv { s with fe := { s.fe with
      echoTimer := tickTimer s.fe.echoTimer
      chans := s.fe.chans.map fun c => { c with settle := tickTimer c.settle } } } := by
    refine h.settle (by simp) rfl fun m => ?_
    simp only [FrontEnd.chan, List.getD_eq_getElem?_getD, List.getElem?_map]
    cases s.fe.chans[m - 1]? with
    | none => exact ⟨_, _, rfl, id⟩
    | some c => exact ⟨tickTimer c.settle, c.relayMoved, rfl, fun k e => k (by rw [show c.settle = none from e]; rfl)⟩
  exact timers.congr rfl rfl rfl ⟨Iff.rfl, .inl rfl, id, fun _ _ => .refl _, fun _ => rfl⟩

/-! ## Changes (R10, R12 to R17) -/

/-- ENABLE, SCALE, COUPLING and BWLIMIT of each channel of the part are ACQ fields (R3). -/
theorem chanField_acq {st : Straps} {n q : Nat} (h1 : 1 ≤ n) (h2 : n ≤ channelCount st)
    (hq : q = 0 ∨ q = 1 ∨ q = 3 ∨ q = 4) : classOf st (chanField n q) = some .acq := by
  have h4 : channelCount st ≤ 4 := by rw [channelCount_eq]; split <;> omega
  have hlt : chanField n q < 32 := by unfold chanField; omega
  have hdiv : chanField n q / 8 = n - 1 := by unfold chanField; omega
  have hmod : chanField n q % 8 = q := by unfold chanField; omega
  rw [classOf, fieldSpec, if_pos hlt, hdiv, hmod, if_pos (by omega)]
  rcases hq with rfl | rfl | rfl | rfl <;> rfl

theorem fieldSpec_bound {st : Straps} {id : Nat} (h : (fieldSpec st id).isSome = true) : id < 128 := by
  unfold fieldSpec at h
  split at h
  · omega
  · unfold fixedSpec at h
    split at h <;> simp at h ⊢

theorem mem_presentIds {st : Straps} {id : Nat} : id ∈ presentIds st ↔ (fieldSpec st id).isSome = true := by
  simp only [presentIds, List.mem_filter, List.mem_range, and_iff_right_iff_imp]
  exact fieldSpec_bound

theorem mem_presentIds_of_class {st : Straps} {id : Nat} {c : FieldClass} (h : classOf st id = some c) :
    id ∈ presentIds st := by
  rw [mem_presentIds]
  cases hf : fieldSpec st id with
  | none => simp [classOf, hf] at h
  | some _ => rfl

theorem mem_acqIds {st : Straps} {id : Nat} : id ∈ acqIds st ↔ classOf st id = some .acq := by
  simp only [acqIds, List.mem_filter, decide_eq_true_eq, and_iff_right_iff_imp]
  exact mem_presentIds_of_class

/-- The records after a change are recorded, and the value of a field that the change does not alter (R10). -/
theorem recs_recordChange (s : State) (src : Source) (f : Nat → Int) :
    (s.recordChange src f).setup.recs = newRecs s.setup.recs f src (nextGen s.setup.gen) :=
  (inner_postAll _ _).recs

theorem ids_newRecs (recs : List FieldRec) (f : Nat → Int) (src : Source) (g : BitVec 32) :
    (newRecs recs f src g).map (·.id) = recs.map (·.id) := by
  simp only [newRecs, List.map_map]
  refine List.map_congr_left fun r _ => ?_
  simp only [Function.comp_apply]
  split <;> rfl

theorem fieldVal_recordChange {s : State} (hids : s.setup.recs.map (·.id) = presentIds s.straps) (src : Source)
    (f : Nat → Int) {id : Nat} (hp : id ∈ presentIds s.straps) (hn : id ∉ s.altered f) :
    (s.recordChange src f).fieldVal id = s.fieldVal id := by
  have hf : f id = s.fieldVal id := by
    by_contra hne
    exact hn (List.mem_filter.2 ⟨hp, decide_eq_true hne⟩)
  have hv := val_newRecs (m := s.setup) (hids ▸ hp) f src (nextGen s.setup.gen) (nextGen s.setup.gen)
  rw [← hf, ← hv]
  exact congrFun (fieldVal_congr (t := s.recordChange src f) (s := { s with setup := { s.setup with
    recs := newRecs s.setup.recs f src (nextGen s.setup.gen), gen := nextGen s.setup.gen } })
    (recs_recordChange s src f)) id

/-- What recording a change leaves to its disposition: everything but the records, the generation and the notices. -/
theorem frame_recordChange (s : State) (src : Source) (f : Nat → Int) :
    (s.recordChange src f).fe = s.fe ∧ (s.recordChange src f).acq = s.acq
      ∧ (s.recordChange src f).straps = s.straps := by
  have posted (ns : List Notice) (t : State) : (t.postAll ns).fe = t.fe ∧ (t.postAll ns).acq = t.acq
      ∧ (t.postAll ns).straps = t.straps := by
    induction ns generalizing t with
    | nil => exact ⟨rfl, rfl, rfl⟩
    | cons n ns ih => exact ih (t.post n)
  exact posted _ _

theorem mem_updateChannels {st : Straps} {ids : List Nat} {n : Nat} : n ∈ updateChannels st ids ↔
    (1 ≤ n ∧ n ≤ channelCount st) ∧ ∃ q, (q = 0 ∨ q = 1 ∨ q = 3 ∨ q = 4) ∧ chanField n q ∈ ids := by
  simp only [updateChannels, List.mem_filter, List.mem_map, List.mem_range, List.any_eq_true, List.contains_iff_mem,
    List.mem_cons, List.not_mem_nil, or_false]
  refine and_congr ⟨fun ⟨k, hk, e⟩ => by omega, fun ⟨h1, h2⟩ => ⟨n - 1, by omega, by omega⟩⟩ Iff.rfl

/-- The front end takes the requests of a change, and the arbiter acts: its law holds of the new values (R12, R51, R52;
log 11). -/
theorem frontLaw_requestUpdates {s t : State} (h : FrontLaw s.straps s.fieldVal s.fe) (hf : t.fe = s.fe)
    (hs : t.straps = s.straps) {ids : List Nat}
    (hv : ∀ id ∈ presentIds s.straps, id ∉ ids → t.fieldVal id = s.fieldVal id) :
    FrontLaw t.straps t.fieldVal (t.requestUpdates ids).fe := by
  have requested : FrontLaw t.straps t.fieldVal (t.fe.request (updateChannels t.straps ids)) := by
    rw [hf, hs]
    refine h.request (fun n hn => (mem_updateChannels.1 hn).1) fun n h1 h2 hn => ?_
    have same {q : Nat} (hq : q = 0 ∨ q = 1 ∨ q = 3 ∨ q = 4) :
        t.fieldVal (chanField n q) = s.fieldVal (chanField n q) :=
      hv _ (mem_presentIds_of_class (chanField_acq h1 h2 hq)) fun k => hn (mem_updateChannels.2 ⟨⟨h1, h2⟩, q, hq, k⟩)
    funext g
    simp only [chanField] at same
    rw [Current, Current, same (by simp), same (by simp), same (by simp)]
  unfold State.requestUpdates
  split
  · next hu => simpa [hu, FrontEnd.request] using requested
  · exact (frontLaw_feArbitrate (s := { t with fe := t.fe.request (updateChannels t.straps ids) }) requested).1

theorem acq_requestUpdates (s : State) (ids : List Nat) : (s.requestUpdates ids).acq = s.acq := by
  unfold State.requestUpdates
  split
  · rfl
  · rw [feArbitrate_eq]

/-- An ACQ change in an active run mode: after the restart an arm may begin (R13). -/
theorem mayArm_restart {s : State} (h : Grounded s) (ho : FillingOne s.acq) (hm : s.acq.mode ≠ .stop) :
    MayArm s.restart := by
  have abandoned : MayArm s.abandonFilling :=
    ⟨h.abandonFilling, noFilling_abandonFilling h.wf ho.unique, by rw [mode_abandonFilling]; exact hm⟩
  have cleared {t : State} (k : MayArm t) : MayArm { t.purge.clearRasters with
      acq := { t.purge.clearRasters.acq with state := .settling }, trig := t.purge.clearRasters.trig.cancel } := by
    have c := (k.kept (fillKept_purge t)).kept (fillKept_clearRasters _)
    exact ⟨c.toGrounded.congr rfl rfl rfl c.wf, c.none, c.mode⟩
  unfold State.restart
  dsimp only
  split
  · have freed := abandoned.kept (fillKept_freeUnheld _ s.abandonFilling.acq.seqList)
    exact cleared ⟨freed.toGrounded.congr rfl rfl rfl freed.wf, freed.none, freed.mode⟩
  · exact cleared abandoned

/-- The parts of the disposition that follow the restart or the marks. -/
theorem fillKept_disposeRest (s : State) (ids : List Nat) :
    FillKept s (((s.disposeView ids).disposeTrigMode ids).disposeAux ids) :=
  ((fillKept_disposeView s ids).trans (fillKept_disposeTrigMode _ ids)).trans (fillKept_disposeAux _ ids)

theorem active_iff (s : State) : s.active = true ↔ s.acq.mode ≠ .stop := by simp [State.active]

theorem SettledInv.disposeEnd {s : State} (h : SettledInv s) {ids : List Nat}
    (ha : (hasClass s.straps ids .acq && s.active) = false) : SettledInv (s.disposeEnd ids) := by
  unfold State.disposeEnd
  rw [if_neg (by simp [ha])]
  split
  · exact h.finishAct
  · exact h

theorem MayArm.disposeEnd {s : State} (h : MayArm s) {ids : List Nat} (ha : hasClass s.straps ids .acq = true) :
    SettledInv (s.disposeEnd ids) := by
  unfold State.disposeEnd
  rw [if_pos (by simp [ha, active_iff, h.mode])]
  exact (h.kept (fillKept_resume s)).arm

theorem hasClass_acq_of_mem {st : Straps} {ids : List Nat} {id : Nat} (hm : id ∈ ids) (hc : classOf st id = some .acq) :
    hasClass st ids .acq = true := List.any_eq_true.2 ⟨id, hm, by simpa using hc⟩

theorem classOf_ne_acq {st : Straps} {ids : List Nat} (h : hasClass st ids .acq = false) {id : Nat}
    (hc : classOf st id = some .acq) : id ∉ ids := fun hm => by simp [hasClass_acq_of_mem hm hc] at h

/-- A change that alters no ACQ field leaves everything that the invariant looks at as it was. -/
theorem SettledInv.values {s t : State} (h : SettledInv s) (hf : t.fe = s.fe) (ha : t.acq = s.acq)
    (hs : t.straps = s.straps) (hids : t.setup.recs.map (·.id) = presentIds s.straps)
    (hv : ∀ id, classOf s.straps id = some .acq → t.fieldVal id = s.fieldVal id) : SettledInv t := by
  have chan {n q : Nat} (h1 : 1 ≤ n) (h2 : n ≤ channelCount s.straps) (hq : q = 0 ∨ q = 1 ∨ q = 3 ∨ q = 4) :
      t.fieldVal (8 * (n - 1) + q) = s.fieldVal (8 * (n - 1) + q) := hv _ (chanField_acq h1 h2 hq)
  refine ⟨⟨ha ▸ h.wf, hs ▸ hids, ?_⟩, ha ▸ h.one, fun hfill => ?_, fun i hi => ?_⟩
  · rw [hs, hf]
    refine h.front.request (ns := []) (by simp) fun n h1 h2 _ => ?_
    funext g
    rw [Current, Current, chan h1 h2 (by simp), chan h1 h2 (by simp), chan h1 h2 (by simp)]
  · rw [frontSettled_iff, hs, hf]
    intro n h1 h2 hon
    refine (frontSettled_iff s).1 (h.settled (ha ▸ hfill)) n h1 h2 ?_
    rw [← hon]
    exact (chan h1 h2 (.inl rfl)).symm
  · rw [ha] at hi ⊢
    rw [h.snap i hi, liveAcqValues, liveAcqValues, hs]
    exact List.map_congr_left fun id hid => by rw [hv id (mem_acqIds.1 hid)]

/-- The disposition of a change whose values stand in the records (R12): with no ACQ field altered everything that the
invariant looks at is as it was; with one, nothing is FILLING any longer in an active run mode, and nothing was in
STOP. -/
theorem SettledInv.dispose {s t : State} (h : SettledInv s) (hf : t.fe = s.fe) (ha : t.acq = s.acq)
    (hs : t.straps = s.straps) (hids : t.setup.recs.map (·.id) = presentIds s.straps) {ids : List Nat}
    (hv : ∀ id ∈ presentIds s.straps, id ∉ ids → t.fieldVal id = s.fieldVal id) : SettledInv (t.dispose ids) := by
  have freed := fillKept_freeAboveK t ids
  generalize hu : t.freeAboveK ids = u at freed
  have hk := inner_requestUpdates u ids
  have hacq := acq_requestUpdates u ids
  generalize hw : u.requestUpdates ids = w at hk hacq
  have one : FillingOne w.acq := by
    rw [hacq]
    exact FillingOne.kept (ha ▸ h.one) (ha ▸ h.wf) freed.acq
  have told : Grounded w := by
    refine ⟨hacq ▸ freed.acq.wf (ha ▸ h.wf), by rw [hk.recs, hk.straps, freed.recs, freed.straps, hids, hs], ?_⟩
    rw [hk.straps, fieldVal_congr hk.recs, ← hw]
    exact frontLaw_requestUpdates h.front (freed.fe.trans hf) (freed.straps.trans hs) fun id hp hn => by
      rw [fieldVal_congr freed.recs, hv id hp hn]
  have rest (x : State) : FillKept x (((x.disposeView ids).disposeTrigMode ids).disposeAux ids) :=
    fillKept_disposeRest x ids
  rw [State.dispose, hu, hw]
  cases hc : hasClass w.straps ids .acq with
  | true =>
    by_cases hm : w.acq.mode = .stop
    · have marked : w.disposeAcq ids = w.markChanged ids := by
        rw [State.disposeAcq, if_pos hc, if_neg (by simp [active_iff, hm])]
      have stopped : SettledInv (w.markChanged ids) :=
        Grounded.settledInv (told.congr rfl rfl rfl told.wf) (one.noFilling (by rw [one.mode.1 hm]; rfl)) one.mode
          (by rw [State.markChanged, one.mode.1 hm]; rfl)
      rw [marked]
      refine (stopped.kept (rest _)).disposeEnd ?_
      rw [Bool.and_eq_false_iff]
      exact .inr (by simpa [State.active] using (rest (w.markChanged ids)).acq.mode.2 hm)
    · have restarted : MayArm (w.disposeAcq ids) := by
        rw [State.disposeAcq, if_pos hc, if_pos ((active_iff w).2 hm)]
        exact mayArm_restart told one hm
      refine (restarted.kept (rest _)).disposeEnd ?_
      rw [(rest _).straps, (inner_disposeAcq w ids).straps, hc]
  | false =>
    have same : SettledInv w := by
      have hcs : hasClass s.straps ids .acq = false := by rw [← hs, ← freed.straps, ← hk.straps]; exact hc
      have none_asked : w = u := by
        rw [← hw, State.requestUpdates, if_pos]
        rw [List.eq_nil_iff_forall_not_mem]
        intro n hn
        obtain ⟨⟨h1, h2⟩, q, hq, hm⟩ := mem_updateChannels.1 hn
        rw [freed.straps, hs] at h2
        exact classOf_ne_acq hcs (chanField_acq h1 h2 hq) hm
      rw [none_asked]
      exact (h.values hf ha hs hids fun id hc => hv id (mem_presentIds_of_class hc) (classOf_ne_acq hcs hc)).kept freed
    have unmoved : w.disposeAcq ids = w := by rw [State.disposeAcq, hc]; rfl
    rw [unmoved]
    refine (same.kept (rest w)).disposeEnd ?_
    rw [(rest w).straps, hc]
    rfl

theorem SettledInv.applyValues {s : State} (h : SettledInv s) (src : Source) (f : Nat → Int) :
    SettledInv (s.applyValues src f) := by
  unfold State.applyValues
  split
  · exact h
  · obtain ⟨hf, ha, hs⟩ := frame_recordChange s src f
    exact h.dispose hf ha hs (by rw [recs_recordChange, ids_newRecs, h.ids]) fun id hp hn =>
      fieldVal_recordChange h.ids src f hp hn

/-! ## Every step -/

theorem SettledInv.act {s t : State} (k : Act s t) (h : SettledInv s) : SettledInv t := by
  induction k with
  | kept k => exact h.kept k
  | trans _ _ ih ih' => exact ih' (ih h)
  | retryWait s => exact h.retryWait
  | runControl s m => exact h.runControl m
  | keptSample s cs ext => exact h.keptSample cs ext
  | confirm hx => exact h.confirm hx
  | mismatch hx => exact h.mismatch hx
  | expire s n => exact h.expire n
  | arbitrate s => exact h.arbitrate
  | tellSettled s => exact h.tellSettled
  | applyValues s src f => exact h.applyValues src f

/-- Right after a power-on reset every channel is WAITING, and nothing is FILLING (R49, R84, R86). -/
theorem settledInv_resetWith (st : Straps) (flash : Cells Word) : SettledInv (State.resetWith st flash) := by
  refine Grounded.settledInv ⟨rfl, ?_, List.length_replicate, by simp [State.resetWith, FrontEnd.initial],
    fun n h1 h2 => ?_⟩ (fun i => by simp [State.resetWith, Acq.initial, Acq.seg, Cells.get, Seg.blank])
    (by simp [State.resetWith, Acq.initial]) rfl
  · simp [State.resetWith, Setup.initial, Function.comp_def]
  · have hc : (State.resetWith st flash).fe.chan n = ChanRec.initial := by
      simp only [State.resetWith, FrontEnd.initial, FrontEnd.chan, List.getD_eq_getElem?_getD, List.getElem?_replicate]
      split <;> rfl
    rw [hc]
    exact ⟨by simp [ChanRec.initial], by simp [ChanRec.initial], by simp [ChanRec.initial], by simp [ChanRec.initial],
      by simp [ChanRec.initial]⟩

/-- The same front end, live values and acquisition: the invariant does not look at the queue of commands. -/
theorem SettledInv.pending {s : State} (h : SettledInv s) (q : List Instr) : SettledInv { s with pending := q } :=
  h.congr rfl rfl rfl (.refl _)

theorem fillKept_beginScan (s : State) : FillKept s s.beginScan := .beside rfl

theorem SettledInv.step {s t : State} (h : SettledInv s) (ht : step s = .next t) : SettledInv t := by
  unfold Machine.step at ht
  split at ht
  · next c rest _ =>
    by_cases hc : ∀ st w u, c ≠ .powerOnReset st w u
    · obtain ⟨t', he, k⟩ := exec_act c { s with pending := rest } hc
      obtain rfl : t' = t := by rw [he] at ht; exact Host.Outcome.next.inj ht
      exact (h.pending rest).act k
    · simp only [not_forall, ne_eq, not_not] at hc
      obtain ⟨st, w, u, rfl⟩ := hc
      obtain rfl := Host.Outcome.next.inj ht
      exact ((settledInv_resetWith st _).arbitrate.kept (fillKept_beginScan _)).pending _
  · unfold idle at ht
    split at ht
    · obtain rfl := Host.Outcome.next.inj ht
      exact h.act (.takeEvent s _)
    · obtain rfl := Host.Outcome.next.inj ht
      exact (h.arbitrate.kept (fillKept_beginScan _)).tick

/-! ## What the invariant says of a filling segment -/

/-- A snapshot that holds the live ACQ values reads each of them, and 0 for every other field (R88). -/
theorem val_of_liveAcq {s : State} {n : Snap} (h : n.vals = liveAcqValues s) (id : Nat) :
    n.val id = if classOf s.straps id = some .acq then s.fieldVal id else 0 := by
  have found (l : List Nat) : (((l.map fun i => (i, s.fieldVal i)).find? fun p => p.1 == id).map (·.2)).getD 0
      = if id ∈ l then s.fieldVal id else 0 := by
    induction l with
    | nil => rfl
    | cons i l ih =>
      by_cases hi : i = id
      · simp [hi]
      · simpa [hi, Ne.symm hi] using ih
  rw [Snap.val, h, liveAcqValues, found]
  simp only [mem_acqIds]

theorem channelCount_le (st : Straps) : channelCount st ≤ 4 := by rw [channelCount_eq]; split <;> omega

/-- A channel that a snapshot with the live values enables is one of the part's, and ON. -/
theorem mem_segChannels_live {s : State} {a : Acq} {g : Seg} (h : (a.snapOf g).vals = liveAcqValues s) {n : Nat} :
    n ∈ a.segChannels g ↔ 1 ≤ n ∧ n ≤ channelCount s.straps ∧ s.fieldVal (8 * (n - 1)) = 1 := by
  have hle := channelCount_le s.straps
  have hv : a.snapVal g (chanField n 0)
      = if classOf s.straps (chanField n 0) = some .acq then s.fieldVal (chanField n 0) else 0 := val_of_liveAcq h _
  rw [Acq.segChannels, List.mem_filter, decide_eq_true_eq, hv]
  constructor
  · rintro ⟨hm, hon⟩
    split at hon
    · next hc =>
      have h14 : 1 ≤ n ∧ n ≤ 4 := by simp at hm; omega
      refine ⟨h14.1, ?_, hon⟩
      by_contra hgt
      have hdiv : ¬ chanField n 0 / 8 < channelCount s.straps := by unfold chanField; omega
      have hlt : chanField n 0 < 32 := by unfold chanField; omega
      simp [classOf, fieldSpec, if_pos hlt, if_neg hdiv] at hc
    · simp at hon
  · rintro ⟨h1, h2, hon⟩
    rw [if_pos (chanField_acq h1 h2 (.inl rfl))]
    exact ⟨by simp; omega, hon⟩

/-- Settles O17: each step is an act, a power-on reset or a base tick, and the invariant that `SettledLaw` and its
premises make up is kept by them all. -/
theorem settledLawKept : Obligations.SettledLawKept := by
  refine ⟨fun s t hm ha _ hs h hst => ((settledInv_of_laws hm ha hs h).step hst).law, fun s hm ha hs h i n hi hn => ?_⟩
  have k := settledInv_of_laws hm ha hs h
  have live := k.snap i hi
  obtain ⟨h1, h2, hon⟩ := (mem_segChannels_live live).1 hn
  obtain ⟨hu, hp, ht⟩ := (frontSettled_iff s).1 (k.settled (k.one.filling.1 ⟨i, hi⟩)) n h1 h2 hon
  have hv {q : Nat} (hq : q = 0 ∨ q = 1 ∨ q = 3 ∨ q = 4) :
      s.acq.snapVal (s.acq.seg i) (8 * (n - 1) + q) = s.fieldVal (8 * (n - 1) + q) :=
    (val_of_liveAcq live _).trans (if_pos (chanField_acq h1 h2 hq))
  refine ⟨hu, hp, ht, ?_⟩
  rw [hv (by simp), hv (by simp), hv (by simp)]
  exact (k.front.chan n h1 h2).confirmed hu

end Sys2Proof.Machine
end

section
/-!
SUPPORT. A kept sample: where it is written, what tracking leaves of the trigger unit, and what the passage to READY, a
trigger and a sample of POSTTRIG short of the last do (R60, R70, R72 to R77, R94 to R96); and the statement about them.
-/

namespace Sys2Proof.Machine

/-! ## Where a sample is written (R85, R93) -/

/-- The codes of a sample stand at a position of segment i, for each channel that its snapshot enables, and the rest of
sample memory is as it was. -/
def SampleWritten (a : Acq) (m : Cells Byte) (i pos : Nat) (codes : List Byte) : Prop :=
  ∀ k, Cells.get 0 m k
    = match (a.segChannels (a.seg i)).find? fun n => k == (n - 1) * 20000000 + i * a.segLength (a.seg i) + pos with
      | some n => codes.getD (n - 1) 0
      | none => Cells.get 0 a.samples k

/-- A read after one write for each element of a list, at addresses that differ. -/
theorem get_foldl_put {β : Type} {key : β → Nat} {ns : List β} (hk : ns.Pairwise fun x y => key x ≠ key y)
    (val : β → Byte) {m : Cells Byte} (hm : Cells.wf 0 m = true) (a : Nat) :
    Cells.get 0 (ns.foldl (fun m n => Cells.put 0 m (key n) (val n)) m) a
      = ((ns.find? fun n => a == key n).map val).getD (Cells.get 0 m a) := by
  induction ns generalizing m with
  | nil => rfl
  | cons n ns ih =>
    obtain ⟨hn, hns⟩ := List.pairwise_cons.1 hk
    rw [List.foldl_cons, ih hns (Cells.wf_put hm _ _), Cells.get_put hm]
    by_cases ha : a = key n
    · have hnone : (ns.find? fun x => a == key x) = none :=
        List.find?_eq_none.2 fun x hx => by simpa [ha] using hn x hx
      simp [ha ▸ hnone, ha]
    · have hb : (a == key n) = false := by simpa using ha
      rw [List.find?_cons, hb, if_neg ha]

/-- The channels of a segment have apart places in sample memory. -/
theorem pairwise_sampleKey (a : Acq) (g : Seg) (addr : Nat) :
    (a.segChannels g).Pairwise fun n m => sampleKey n addr ≠ sampleKey m addr := by
  refine List.Pairwise.filter _ ?_
  simp only [List.pairwise_cons, List.mem_cons, List.not_mem_nil, or_false, forall_eq_or_imp, forall_eq, sampleKey,
    Config.sampleSpan, List.Pairwise.nil, and_true, false_implies, implies_true]
  omega

theorem sampleWritten_writeSample {s : State} (h : Cells.wf (0 : Byte) s.acq.samples = true) (i pos : Nat)
    (codes : List Byte) : SampleWritten s.acq (s.writeSample i pos codes).acq.samples i pos codes := by
  intro k
  have hp := pairwise_sampleKey s.acq (s.acq.seg i) (i * s.acq.segLength (s.acq.seg i) + pos)
  refine (get_foldl_put hp (fun n => codes.getD (n - 1) 0) h k).trans ?_
  simp only [sampleKey, Config.sampleSpan, ← Nat.add_assoc]
  cases (s.acq.segChannels (s.acq.seg i)).find? fun n =>
    k == (n - 1) * 20000000 + i * s.acq.segLength (s.acq.seg i) + pos <;> rfl

/-! ## Tracking (R70) -/

/-- What tracking leaves of the trigger unit as it was: holdoff, auto timer, remembered FORCE, TRIG_OUT pulse. -/
def TimersKept (t u : Trig) : Prop :=
  u.holdoff = t.holdoff ∧ u.autoTimer = t.autoTimer ∧ u.forced = t.forced ∧ u.pulse = t.pulse

theorem TimersKept.trans {t u v : Trig} (h : TimersKept t u) (k : TimersKept u v) : TimersKept t v := by
  obtain ⟨h1, h2, h3, h4⟩ := h
  obtain ⟨k1, k2, k3, k4⟩ := k
  exact ⟨k1.trans h1, k2.trans h2, k3.trans h3, k4.trans h4⟩

theorem timersKept_edges (t : Trig) (v : Nat → Int) (code : Nat) (ext : Bool) :
    TimersKept t (t.edges v code ext).1 := by
  unfold Trig.edges
  dsimp only
  split <;> exact ⟨rfl, rfl, rfl, rfl⟩

theorem timersKept_width (t : Trig) (v : Nat → Int) (fire : Firings) : TimersKept t (t.width v fire) := by
  have count (t : Trig) : TimersKept t t.countWidth := by unfold Trig.countWidth; split <;> exact ⟨rfl, rfl, rfl, rfl⟩
  have ends (t : Trig) : TimersKept t (t.endEdge fire) := by unfold Trig.endEdge; split <;> exact ⟨rfl, rfl, rfl, rfl⟩
  have starts (t : Trig) : TimersKept t (t.startEdge v fire) := by
    unfold Trig.startEdge
    split
    · exact ⟨rfl, rfl, rfl, rfl⟩
    · split <;> exact ⟨rfl, rfl, rfl, rfl⟩
  exact ((count t).trans (ends _)).trans (starts _)

theorem timersKept_track (t : Trig) (v : Nat → Int) (code : Nat) (ext : Bool) : TimersKept t (t.track v code ext).1 :=
  (timersKept_edges t v code ext).trans (timersKept_width _ v _)

/-! ## Triggers and the passage to READY -/

/-- The passage to READY with a FORCE remembered (R77). -/
theorem passToReady_forced {s : State} (h : s.trig.forced = true) : s.passToReady = { s with
    trig := { s.trig with forced := false }.taken (s.fieldVal 49) (s.fieldVal fidAuxSource)
    acq := { s.acq with state := .posttrig, postCount := 0 } } := by
  rw [State.passToReady, if_pos h]
  rfl

/-- The passage to READY with none (R74, R94). -/
theorem passToReady_unforced {s : State} (h : s.trig.forced = false) : s.passToReady = { s with
    acq := { s.acq with state := .ready }
    trig := if s.fieldVal fidTrigMode = 0 then s.trig.startAuto (s.fieldVal 50) else s.trig } := by
  rw [State.passToReady, if_neg (by simp [h])]

/-! ## Samples by the acquisition's state -/

/-- A sample of POSTTRIG that is not the last (R96): it is written at the next position, and the first gives the
timestamp. -/
theorem postSample_short {s t : State} {i : Nat} {codes : List Byte} (ht : t = s.postSample i codes)
    (hs : Cells.wf Seg.blank s.acq.segs = true) (hm : Cells.wf (0 : Byte) s.acq.samples = true)
    (hl : (s.acq.seg i).p + s.acq.postCount + 1 < s.acq.segLength (s.acq.seg i)) :
    t.acq.state = s.acq.state ∧ t.acq.counter = s.acq.counter ∧ t.acq.postCount = s.acq.postCount + 1
      ∧ SampleWritten s.acq t.acq.samples i ((s.acq.seg i).p + s.acq.postCount) codes ∧ t.trig = s.trig
      ∧ (t.acq.seg i).time = if s.acq.postCount = 0 then s.baseTick else (s.acq.seg i).time := by
  rw [State.postSample, if_neg (by simp only [State.seg_eq]; omega)] at ht
  dsimp only at ht
  rw [if_neg (by simp only [State.seg_eq]; omega)] at ht
  by_cases h0 : s.acq.postCount = 0
  · rw [if_pos h0] at ht
    have seg : (s.setSeg i { s.seg i with time := s.baseTick }).acq.seg i
        = { s.acq.seg i with time := s.baseTick } := by
      rw [State.setSeg, Acq.seg_setSeg hs, if_pos rfl]
      rfl
    have written := sampleWritten_writeSample (s := s.setSeg i { s.seg i with time := s.baseTick }) hm i
      ((s.acq.seg i).p + s.acq.postCount) codes
    rw [SampleWritten, seg] at written
    rw [ht, if_pos h0]
    exact ⟨rfl, rfl, rfl, written, rfl, congrArg Seg.time seg⟩
  · rw [if_neg h0] at ht
    rw [ht, if_neg h0]
    exact ⟨rfl, rfl, rfl, sampleWritten_writeSample hm i _ codes, rfl, rfl⟩

/-- A sample of PRETRIG is written and counted (R94), before the passage to READY that the last of them brings. -/
def State.pretrigStored (s : State) (i : Nat) (codes : List Byte) : State :=
  { s.writeSample i s.acq.fillCount codes with
    acq := { (s.writeSample i s.acq.fillCount codes).acq with fillCount := s.acq.fillCount + 1 } }

theorem pretrigSample_eq (s : State) (i : Nat) (codes : List Byte) : s.pretrigSample i codes
    = if (s.acq.seg i).p ≤ s.acq.fillCount + 1 then (s.pretrigStored i codes).passToReady
      else s.pretrigStored i codes := rfl

/-- What a sample of PRETRIG leaves (R70, R72 to R74, R77, R94). -/
theorem pretrigSample_leaves {s t : State} {i : Nat} {codes : List Byte} (ht : t = s.pretrigSample i codes)
    (hs : s.acq.state = .pretrig) (hm : Cells.wf (0 : Byte) s.acq.samples = true) :
    let early : Prop := s.acq.fillCount + 1 < (s.acq.seg i).p
    SampleWritten s.acq t.acq.samples i s.acq.fillCount codes ∧ t.acq.fillCount = s.acq.fillCount + 1
      ∧ t.acq.counter = s.acq.counter ∧ t.acq.decim = s.acq.decim
      ∧ t.acq.state = (if early then .pretrig else if s.trig.forced = true then .posttrig else .ready)
      ∧ t.trig = (if early then s.trig
        else if s.trig.forced = true then
          { s.trig with forced := false }.taken (s.fieldVal 49) (s.fieldVal fidAuxSource)
        else if s.fieldVal fidTrigMode = 0 then s.trig.startAuto (s.fieldVal 50) else s.trig)
      ∧ t.acq.postCount = (if early ∨ s.trig.forced = false then s.acq.postCount else 0)
      ∧ ∀ j, t.acq.seg j = s.acq.seg j := by
  have written := sampleWritten_writeSample hm i s.acq.fillCount codes
  intro early
  rw [pretrigSample_eq] at ht
  by_cases he : early
  · rw [if_neg (not_le.2 he)] at ht
    simp only [ht, he, true_or, if_true]
    exact ⟨written, rfl, rfl, rfl, hs, rfl, rfl, fun _ => rfl⟩
  · rw [if_pos (not_lt.1 he)] at ht
    cases hf : s.trig.forced with
    | true =>
      rw [passToReady_forced (s := s.pretrigStored i codes) hf] at ht
      simp only [ht, he, false_or, if_true, if_false, Bool.true_eq_false]
      exact ⟨written, rfl, rfl, rfl, trivial, rfl, trivial, fun _ => rfl⟩
    | false =>
      rw [passToReady_unforced (s := s.pretrigStored i codes) hf] at ht
      simp only [ht, he, false_or, if_true, if_false, Bool.false_eq_true]
      exact ⟨written, rfl, rfl, rfl, trivial, rfl, rfl, fun _ => rfl⟩

/-- What a sample of READY that is not the trigger sample leaves (R95). -/
theorem overwriteOldest_leaves {s t : State} {i : Nat} {codes : List Byte} (ht : t = s.overwriteOldest i codes)
    (hs : Cells.wf Seg.blank s.acq.segs = true) (hm : Cells.wf (0 : Byte) s.acq.samples = true) :
    let g := s.acq.seg i
    t.acq.state = s.acq.state ∧ t.acq.counter = s.acq.counter ∧ t.trig = s.trig
      ∧ (g.p = 0 → t.acq.samples = s.acq.samples)
      ∧ (g.p ≠ 0 → SampleWritten s.acq t.acq.samples i g.wrap codes ∧ (t.acq.seg i).wrap = (g.wrap + 1) % g.p) := by
  intro g
  unfold State.overwriteOldest at ht
  by_cases hp : g.p = 0
  · have hts : t = s := ht.trans (if_pos hp)
    rw [hts]
    exact ⟨rfl, rfl, rfl, fun _ => rfl, fun h => absurd hp h⟩
  · have hts := ht.trans (if_neg hp)
    have seg : t.acq.seg i = { g with wrap := (g.wrap + 1) % g.p } := by
      rw [hts]
      exact (Acq.seg_put hs i _ i).trans (if_pos rfl)
    refine ⟨by rw [hts]; rfl, by rw [hts]; rfl, by rw [hts]; rfl, fun h => absurd h hp, fun _ => ⟨?_, by rw [seg]⟩⟩
    rw [hts]
    exact sampleWritten_writeSample hm i g.wrap codes

/-! ## The statement -/

/-- The trigger unit at a sample that tracking acts on. -/
theorem trig_tracked {s : State} (h : s.acq.state ≠ .posttrig) (i : Nat) (codes : List Byte) (ext : Bool) :
    (s.tracked i codes ext).trig
      = (s.trig.track (s.acq.snapVal (s.acq.seg i)) (sourceCode (s.acq.snapVal (s.acq.seg i)) codes) ext).1 :=
  if_neg h

theorem keptSample_some {s : State} {i : Nat} (h : s.acq.fillingIdx = some i) (codes : List Byte) (ext : Bool) :
    s.keptSample codes ext = s.takeSample i codes ext := by rw [State.keptSample, h]

theorem takeSample_pretrig {s : State} (h : s.acq.state = .pretrig) (i : Nat) (codes : List Byte) (ext : Bool) :
    s.takeSample i codes ext = (s.tracked i codes ext).pretrigSample i codes := by rw [State.takeSample, h]

theorem takeSample_ready {s : State} (h : s.acq.state = .ready) (i : Nat) (codes : List Byte) (ext : Bool) :
    s.takeSample i codes ext = if s.triggers i codes ext then
        ((s.tracked i codes ext).takeTrigger false).postSample i codes
      else (s.tracked i codes ext).overwriteOldest i codes := by rw [State.takeSample, h]

theorem takeSample_posttrig {s : State} (h : s.acq.state = .posttrig) (i : Nat) (codes : List Byte) (ext : Bool) :
    s.takeSample i codes ext = (s.tracked i codes ext).postSample i codes := by rw [State.takeSample, h]

/-- Settles O52: by the acquisition's state, in which one lemma each says what the sample does. -/
theorem keptSample : Obligations.KeptSample := by
  intro s c1 c2 c3 c4 ext hm codes
  obtain ⟨t, ht⟩ : ∃ t, t = s.keptSample codes ext := ⟨_, rfl⟩
  have hinner : Inner s t := ht ▸ inner_keptSample s codes ext
  refine ⟨t, by rw [ht]; rfl, hinner, fun h => by rw [ht, State.keptSample, h], fun i hi => ?_⟩
  intro g len v moved taken trigger written
  obtain ⟨hsegs, hsamples, -⟩ := hm
  obtain ⟨-, -, hforced, hpulse⟩ : TimersKept s.trig moved := timersKept_track s.trig v _ ext
  have htaken : moved.taken (s.fieldVal 49) (s.fieldVal fidAuxSource) = taken := by
    simp only [Trig.taken, hpulse]
    rfl
  have htriggers : s.triggers i codes ext = true ↔ trigger := by
    simp only [State.triggers, Bool.and_eq_true, decide_eq_true_eq]
    rfl
  let u := s.tracked i codes ext
  rw [keptSample_some hi] at ht
  refine ⟨fun hs => ?_, fun hs hno => ?_, fun hs htr hl => ?_, fun hs hl => ?_⟩
  · have hu : u.trig = moved := trig_tracked (by simp [hs]) i codes ext
    rw [takeSample_pretrig hs] at ht
    obtain ⟨hw, hcount, hctr, hdecim, hstate, htrig, hpost, hseg⟩ := pretrigSample_leaves (s := u) ht hs hsamples
    rw [hu, hforced] at hstate hpost
    have hforce : { moved with forced := false }.taken (s.fieldVal 49) (s.fieldVal fidAuxSource)
        = { taken with forced := false } := by rw [← htaken]; rfl
    rw [hu, hforced] at htrig
    exact ⟨hw, hcount, hctr, hdecim, hstate, htrig.trans (by rw [← hforce]; rfl), hpost, hseg⟩
  · have hu : u.trig = moved := trig_tracked (by simp [hs]) i codes ext
    rw [takeSample_ready hs, if_neg (htriggers.not.2 hno)] at ht
    obtain ⟨hstate, hctr, htrig, hnone, hw⟩ := overwriteOldest_leaves (s := u) ht hsegs hsamples
    exact ⟨hstate.trans hs, hctr, htrig.trans hu, hnone, hw⟩
  · have hu : u.trig = moved := trig_tracked (by simp [hs]) i codes ext
    rw [takeSample_ready hs, if_pos (htriggers.2 htr)] at ht
    obtain ⟨hstate, hctr, hpost, hw, htrig, htime⟩ := postSample_short (s := u.takeTrigger false) ht hsegs hsamples hl
    exact ⟨hstate, hctr, hpost, hw, htime, htrig.trans ((congrArg (Trig.taken · _ _) hu).trans htaken)⟩
  · have hu : u.trig = s.trig := if_pos hs
    rw [takeSample_posttrig hs] at ht
    obtain ⟨hstate, hctr, hpost, hw, htrig, htime⟩ := postSample_short (s := u) ht hsegs hsamples hl
    exact ⟨hstate.trans hs, hctr, hpost, hw, htrig.trans hu, htime⟩

end Sys2Proof.Machine
end

section
/-!
SUPPORT. Arming: the slot that slot choice finds, the freeing of the current segment, the snapshot entry that is
obtained, and the entry into FILLING, each tied to the terms of the statements (R85, R87, R88, R90, R91, R93); and the
statement about arming.
-/

namespace Sys2Proof.Machine

/-! ## Slots (R85, R90, R91) -/

theorem available_iff {s : State} (hw : Cells.wf Seg.blank s.acq.segs = true) (i : Nat) :
    s.available i = true ↔ SlotFree s i := by
  simp only [State.available, SlotFree, Bool.and_eq_true, decide_eq_true_eq, List.all_eq_true, Bool.or_eq_true, apart,
    State.seg_eq, State.recordLength, fidRecordLength, Nat.succ_mul]
  refine and_congr decide_eq_true_iff ⟨fun h j hj => ?_, fun h c hc => ?_⟩
  · exact ((h _ (Acq.mem_segs hj)).resolve_left hj).imp of_decide_eq_true of_decide_eq_true
  · obtain ⟨j, g⟩ := c
    have hg : s.acq.seg j = g := (Cells.get_of_mem hw hc).1
    by_cases hf : g.state = .free
    · exact .inl hf
    · subst hg
      exact .inr ((h j hf).imp decide_eq_true decide_eq_true)

/-- The slot that the search of a range finds is the lowest available in it. -/
theorem availableFrom_some {s : State} (hw : Cells.wf Seg.blank s.acq.segs = true) {lo hi i : Nat} :
    s.availableFrom lo hi = some i ↔ lo ≤ i ∧ i < hi ∧ SlotFree s i ∧ ∀ j, lo ≤ j → j < i → ¬ SlotFree s j := by
  simp only [State.availableFrom, List.find?_range_eq_some, Bool.and_eq_true, decide_eq_true_eq, List.mem_range,
    Bool.not_eq_true', ← Bool.not_eq_true, available_iff hw]
  constructor
  · rintro ⟨⟨h1, h2⟩, h3, h4⟩
    exact ⟨h1, h3, h2, fun j hj hji hf => h4 j hji ⟨hj, hf⟩⟩
  · rintro ⟨h1, h3, h2, h4⟩
    exact ⟨⟨h1, h2⟩, h3, fun j hji ⟨hj, hf⟩ => h4 j hj hji hf⟩

theorem availableFrom_none {s : State} (hw : Cells.wf Seg.blank s.acq.segs = true) {lo hi : Nat} :
    s.availableFrom lo hi = none ↔ ∀ j, lo ≤ j → j < hi → ¬ SlotFree s j := by
  simp only [State.availableFrom, List.find?_eq_none, List.mem_range, Bool.and_eq_true, decide_eq_true_eq, not_and,
    available_iff hw]
  exact ⟨fun h j hj hlt => h j hlt hj, fun h j hlt hj => h j hj hlt⟩

theorem pointer_le (s : State) : s.pointer ≤ s.slots := by
  unfold State.pointer
  split <;> omega

/-- The search of slot choice finds the slot that R90 and R91 give. -/
theorem slotTaken_iff {s : State} (hw : Cells.wf Seg.blank s.acq.segs = true) (i : Nat) :
    SlotTaken s i ↔ s.findSlot = some i := by
  have hptr : (if s.acq.nextSlot < s.slots then s.acq.nextSlot else 0) = s.pointer := rfl
  have hle := pointer_le s
  simp only [SlotTaken, hptr]
  unfold State.findSlot
  cases hf : s.availableFrom s.pointer s.slots with
  | some k =>
    obtain ⟨h1, h2, h3, h4⟩ := (availableFrom_some hw).1 hf
    simp only [Option.some.injEq]
    constructor
    · rintro ⟨hi, hfree, hlow⟩
      split at hlow
      · next hp =>
        rcases lt_trichotomy k i with hlt | rfl | hgt
        · exact absurd h3 (hlow k h1 hlt)
        · rfl
        · exact absurd hfree (h4 i hp hgt)
      · exact absurd h3 (hlow.2.1 k h1 h2)
    · rintro rfl
      exact ⟨h2, h3, by rw [if_pos h1]; exact h4⟩
  | none =>
    have hnone := (availableFrom_none hw).1 hf
    by_cases hm : s.acq.mode = .sequence
    · simp only [hm, if_true, reduceCtorEq, iff_false]
      rintro ⟨hi, hfree, hlow⟩
      split at hlow
      · next hp => exact hnone i hp hi hfree
      · exact hlow.1 rfl
    · simp only [if_neg hm, availableFrom_some hw, Nat.zero_le, true_and]
      constructor
      · rintro ⟨hi, hfree, hlow⟩
        split at hlow
        · next hp => exact absurd hfree (hnone i hp hi)
        · next hp => exact ⟨by omega, hfree, fun j _ => hlow.2.2 j⟩
      · rintro ⟨hi, hfree, hlow⟩
        exact ⟨by omega, hfree, by
          rw [if_neg (by omega)]
          exact ⟨hm, hnone, fun j => hlow j trivial⟩⟩

theorem findSlot_none {s : State} (hw : Cells.wf Seg.blank s.acq.segs = true) :
    s.findSlot = none ↔ ∀ i, ¬ SlotTaken s i := by
  simp only [slotTaken_iff hw, Option.eq_none_iff_forall_ne_some, ne_eq]

/-! ## The current segment reused (R87, R90) -/

theorem freed_freeSeg {s : State} (hw : Cells.wf Seg.blank s.acq.segs = true) (i : Nat) : Freed s (s.freeSeg i) i := by
  refine ⟨fun j => Acq.seg_put hw i _ j, ?_⟩
  unfold State.freeSeg dropRef
  cases h : (s.seg i).snap <;> simp only [← State.seg_eq, h]

theorem currentReused_iff {s : State} (hw : Cells.wf Seg.blank s.acq.segs = true) (i : Nat) : CurrentReused s i ↔
    s.acq.mode ≠ .sequence ∧ s.findSlot = none ∧ s.acq.currentIdx = some i ∧ s.reusable i = true := by
  simp only [CurrentReused, findSlot_none hw, State.reusable, Seg.holds, Bool.and_eq_true, decide_eq_true_eq,
    Bool.not_eq_true', Nat.add_eq_zero_iff, and_assoc, State.seg_eq]

theorem reuseCurrent_of_reused {s : State} (hw : Cells.wf Seg.blank s.acq.segs = true) {i : Nat}
    (h : CurrentReused s i) : s.reuseCurrent = s.freeSeg i := by
  obtain ⟨hm, hf, hc, hr⟩ := (currentReused_iff hw i).1 h
  rw [State.reuseCurrent, if_neg hm, hf, hc]
  exact if_pos hr

theorem reuseCurrent_of_not {s : State} (hw : Cells.wf Seg.blank s.acq.segs = true) (h : ∀ i, ¬ CurrentReused s i) :
    s.reuseCurrent = s := by
  unfold State.reuseCurrent
  split
  · rfl
  · next hm =>
    split
    · next i hf hc => exact if_neg fun hr => h i ((currentReused_iff hw i).2 ⟨hm, hf, hc, hr⟩)
    · rfl

/-! ## The snapshot entry (R88) -/

/-- The lowest entry that nothing refers to, filled with the live values and generation. -/
theorem fillEntry_iff {s : State} {e : Nat} {snaps : List Snap} : s.fillEntry = some (e, snaps) ↔
    (∃ n, s.acq.snaps[e]? = some n ∧ n.refs = 0) ∧ (∀ k n, k < e → s.acq.snaps[k]? = some n → n.refs ≠ 0)
      ∧ snaps = s.acq.snaps.set e ⟨0, s.setup.gen, liveAcqValues s⟩ := by
  have refs {k : Nat} {n : Snap} (h : s.acq.snaps[k]? = some n) : s.acq.snaps.getD k Snap.initial = n := by
    rw [List.getD_eq_getElem?_getD, h]
    rfl
  have filled {n : Snap} (h : s.acq.snaps[e]? = some n) (h0 : n.refs = 0) :
      (updateAt s.acq.snaps e fun n => { n with gen := s.setup.gen, vals := s.liveAcq })
        = s.acq.snaps.set e ⟨0, s.setup.gen, liveAcqValues s⟩ := by
    refine List.ext_getElem? fun j => ?_
    rw [getElem?_updateAt, List.getElem?_set]
    by_cases hj : e = j
    · subst hj
      obtain ⟨hlt, -⟩ := List.getElem?_eq_some_iff.1 h
      simp only [h, Option.map_some, if_true, hlt, h0]
      rfl
    · simp [hj, Ne.symm hj]
  simp only [State.fillEntry, Option.map_eq_some_iff, Prod.mk.injEq, List.find?_range_eq_some, decide_eq_true_eq,
    List.mem_range, Bool.not_eq_true', decide_eq_false_iff_not]
  constructor
  · rintro ⟨k, ⟨h0, hlt, hlow⟩, rfl, rfl⟩
    have hk := List.getElem?_eq_getElem hlt
    rw [refs hk] at h0
    exact ⟨⟨_, hk, h0⟩, fun j n hj hn => refs hn ▸ hlow j hj, filled hk h0⟩
  · rintro ⟨⟨n, hn, h0⟩, hlow, rfl⟩
    obtain ⟨hlt, -⟩ := List.getElem?_eq_some_iff.1 hn
    refine ⟨e, ⟨by rw [refs hn]; exact h0, hlt, fun j hj => ?_⟩, rfl, filled hn h0⟩
    have hjn := List.getElem?_eq_getElem (hj.trans hlt)
    rw [refs hjn]
    exact hlow j _ hj hjn

theorem entryTaken_iff {s : State} {e : Nat} {snaps : List Snap} :
    EntryTaken s e snaps ↔ s.obtain = some (e, snaps) := by
  have fits : liveAcqValues s = s.liveAcq := rfl
  unfold EntryTaken State.obtain
  rw [fits]
  cases hn : s.acq.newest with
  | none => simp [fillEntry_iff, fits]
  | some k =>
    by_cases hv : (s.acq.snaps.getD k Snap.initial).vals = s.liveAcq
    · simp only [Option.some.injEq, hv, if_true, Prod.mk.injEq]
      constructor
      · rintro (⟨⟨rfl, -⟩, rfl⟩ | ⟨hno, -⟩)
        · exact ⟨rfl, rfl⟩
        · exact absurd ⟨rfl, hv⟩ (hno k)
      · rintro ⟨rfl, rfl⟩
        exact .inl ⟨⟨rfl, hv⟩, rfl⟩
    · simp only [Option.some.injEq, hv, if_false, fillEntry_iff, fits]
      constructor
      · rintro (⟨⟨rfl, hf⟩, -⟩ | ⟨-, h⟩)
        · exact absurd hf hv
        · exact h
      · exact fun h => .inr ⟨fun j ⟨hj, hf⟩ => hv (hj ▸ hf), h⟩

/-! ## The entry into FILLING (R93) -/

/-- Bit n - 1 of a set of channels is set exactly when channel n, one of 1 to 4, is in it. -/
theorem getLsbD_chanBits (ns : List Nat) (c : Fin 4) : (chanBits ns).getLsbD c = ns.contains ((c : Nat) + 1) := by
  have bits : ∀ (b1 b2 b3 b4 : Bool) (c : Fin 4),
      (BitVec.ofNat 4 (bitIf b1 1 + (bitIf b2 2 + (bitIf b3 4 + (bitIf b4 8 + 0))))).getLsbD c
        = [b1, b2, b3, b4].get c := by decide
  have h := bits (ns.contains 1) (ns.contains 2) (ns.contains 3) (ns.contains 4) c
  refine Eq.trans h ?_
  obtain ⟨c, hc⟩ := c
  interval_cases c <;> rfl

/-- The record with which a segment enters FILLING by an entry that holds the live values. -/
theorem enteredSeg_live {s : State} {e : Nat} {snaps : List Snap} (h : (snaps.getD e Snap.initial).vals = s.liveAcq) :
    ∃ flt : BitVec 4, s.enteredSeg e snaps = ⟨.filling, some e, 0, 0,
        lengthOf (s.fieldVal 33) * (s.fieldVal 34).toNat / 100, false, 0, flt, 0, 0, false, false, 0⟩
      ∧ ∀ c : Fin 4, flt.getLsbD c = true ↔ (c : Nat) < (if s.straps.channels = .four then 4 else 2)
        ∧ s.fieldVal (8 * (c : Nat)) = 1 ∧ (s.fe.chan ((c : Nat) + 1)).fault = true := by
  let g : Seg := { Seg.blank with state := .filling, snap := some e }
  let a := (s.entered 0 e snaps).acq
  have hlive : (a.snapOf g).vals = liveAcqValues s := (snapOf_entered s 0 e snaps rfl).trans h
  have val {id : Nat} (hc : classOf s.straps id = some .acq) : a.snapVal g id = s.fieldVal id :=
    (val_of_liveAcq hlive id).trans (if_pos hc)
  refine ⟨chanBits ((a.segChannels g).filter s.fe.faulted.contains), ?_, fun c => ?_⟩
  · have hlen : a.segLength g = lengthOf (s.fieldVal 33) := congrArg lengthOf (val rfl)
    have hpos : a.snapVal g fidTrigPosition = s.fieldVal 34 := val rfl
    rw [← hlen, ← hpos]
    rfl
  · have hc : (c : Nat) + 1 - 1 = c := rfl
    simp only [getLsbD_chanBits, List.contains_iff_mem, List.mem_filter, mem_segChannels_live hlive,
      ← channelCount_eq, hc, FrontEnd.faulted, Nat.succ_le_iff, Nat.succ_pos]
    have : (c : Nat) + 1 ∈ ([1, 2, 3, 4] : List Nat) := by
      have := c.isLt
      simp
      omega
    simp only [this, true_and, and_assoc]

/-- What the passage to READY does after the entry into FILLING, by the pretrigger part and the FORCE remembered. -/
theorem enterFilling_passes (s : State) (i e : Nat) (snaps : List Snap) :
    let t := s.enterFilling i e snaps
    let p := (s.enteredSeg e snaps).p
    t.acq = { (s.entered i e snaps).acq with state := t.acq.state }
      ∧ t.trig = (if 0 < p then s.trig.clearTracking
        else if s.trig.forced = true then
          { s.trig.clearTracking with forced := false }.taken (s.fieldVal 49) (s.fieldVal fidAuxSource)
        else if s.fieldVal fidTrigMode = 0 then s.trig.clearTracking.startAuto (s.fieldVal 50)
        else s.trig.clearTracking)
      ∧ t.acq.state = (if 0 < p then .pretrig else if s.trig.forced = true then .posttrig else .ready)
      ∧ t.fe = s.fe ∧ t.rend = s.rend ∧ t.setup = s.setup ∧ t.portA = s.portA ∧ t.portB = s.portB := by
  intro t p
  obtain ⟨u, hu⟩ : ∃ u, u = t := ⟨_, rfl⟩
  rw [← hu]
  have ht : u = if p = 0 then (s.entered i e snaps).passToReady else s.entered i e snaps := hu
  by_cases hp : p = 0
  · rw [if_pos hp] at ht
    simp only [hp, lt_irrefl, if_false]
    cases hf : s.trig.forced with
    | true =>
      rw [passToReady_forced (s := s.entered i e snaps) hf] at ht
      simp only [ht, if_true]
      and_intros <;> trivial
    | false =>
      rw [passToReady_unforced (s := s.entered i e snaps) hf] at ht
      simp only [ht, if_false, Bool.false_eq_true]
      and_intros <;> trivial
  · rw [if_neg hp] at ht
    simp only [ht, Nat.pos_of_ne_zero hp, if_true]
    and_intros <;> trivial

theorem fillingEntered_enterFilling {s : State} (hw : Cells.wf Seg.blank s.acq.segs = true) (i : Nat) {e : Nat}
    {snaps : List Snap} (h : s.obtain = some (e, snaps)) : FillingEntered s (s.enterFilling i e snaps) i e snaps := by
  obtain ⟨hacq, htrig, hstate, hrest⟩ := enterFilling_passes s i e snaps
  have hseg (j : Nat) : (s.enterFilling i e snaps).acq.seg j = if j = i then s.enteredSeg e snaps else s.acq.seg j := by
    rw [hacq]
    exact seg_entered hw i e snaps j
  have hi : (s.enterFilling i e snaps).acq.seg i = s.enteredSeg e snaps := (hseg i).trans (if_pos rfl)
  obtain ⟨flt, hflt, hbits⟩ := enteredSeg_live (vals_obtain h)
  refine ⟨inner_enterFilling s i e snaps, ⟨flt, hi.trans hflt, hbits⟩, fun j hj => (hseg j).trans (if_neg hj), ?_,
    ?_, ?_, hrest⟩
  · rw [hacq]
    rfl
  · rw [hi]
    exact htrig
  · rw [hi]
    exact hstate

/-! ## The statement -/

theorem armed_slotChoice {s : State} (hw : Cells.wf Seg.blank s.acq.segs = true) :
    ∃ u, (∀ i, CurrentReused s i → Freed s u i) ∧ ((∀ i, ¬ CurrentReused s i) → u = s)
      ∧ (∀ i e snaps, SlotTaken u i → EntryTaken u e snaps → FillingEntered u s.slotChoice i e snaps)
      ∧ (((∀ i, ¬ SlotTaken u i) ∨ ∀ e snaps, ¬ EntryTaken u e snaps) →
        s.slotChoice = { u with acq := { u.acq with state := .waitSegment } }) := by
  have hu : Cells.wf Seg.blank s.reuseCurrent.acq.segs = true := by
    by_cases hr : ∃ i, CurrentReused s i
    · obtain ⟨i, hi⟩ := hr
      rw [reuseCurrent_of_reused hw hi]
      exact Cells.wf_put hw i _
    · rw [reuseCurrent_of_not hw (not_exists.1 hr)]
      exact hw
  refine ⟨s.reuseCurrent, fun i hi => reuseCurrent_of_reused hw hi ▸ freed_freeSeg hw i, reuseCurrent_of_not hw,
    fun i e snaps hi he => ?_, fun h => ?_⟩
  · have hs := (slotTaken_iff hu i).1 hi
    have ho := entryTaken_iff.1 he
    have : s.slotChoice = s.reuseCurrent.enterFilling i e snaps := by
      rw [State.slotChoice]
      simp only [hs, ho]
    exact this ▸ fillingEntered_enterFilling hu i ho
  · rw [State.slotChoice]
    dsimp only
    split
    · next i e snaps hs ho =>
      rcases h with h | h
      · exact absurd ((slotTaken_iff hu i).2 hs) (h i)
      · exact absurd (entryTaken_iff.2 ho) (h e snaps)
    · rfl

/-- An arm does what R84 and R89 say. -/
theorem armed_arm {s : State} (hw : Cells.wf Seg.blank s.acq.segs = true) : Armed s s.arm := by
  refine ⟨fun h => if_neg fun k => h ((feSettled_iff s).1 k), fun h => ?_⟩
  rw [State.arm, if_pos ((feSettled_iff s).2 h)]
  exact armed_slotChoice hw

theorem tellSettled_settling {s : State} (h : s.acq.state = .settling) : s.tellSettled = s.arm := if_pos h

theorem tellSettled_of_ne {s : State} (h : s.acq.state ≠ .settling) : s.tellSettled = s := if_neg h

/-- A settle timer that runs is a timer of a channel of the part. -/
theorem execSettleExpiry_running {s : State} {n : Nat} (h1 : 1 ≤ n) (h2 : n ≤ channelCount s.straps) {c : ChanRec}
    (hc : s.fe.chans[n - 1]? = some c) (hs : c.settle ≠ none) : execSettleExpiry n s
      = .next (State.tellSettled { s with fe := s.fe.updChan n ChanRec.expire }) := by
  rw [execSettleExpiry, if_pos ⟨h1, h2, by rw [FrontEnd.chan_of_getElem? hc]; exact hs⟩]

theorem chans_expire (f : FrontEnd) (n i : Nat) : (f.updChan n ChanRec.expire).chans[i]? = (f.chans[i]?).map fun c =>
    if i = n - 1 then { c with settle := none, relayMoved := false } else c := getElem?_updateAt _ _ _ _

/-- Settles O25: an arm is slot choice, whose slot, freed segment and entry are those of the rules; a settle expiry
tells of the settled front end. -/
theorem armTakesSlot : Obligations.ArmTakesSlot := by
  refine ⟨fun s hm => armed_arm hm.1, fun s n c hs h1 h2 hc hset => ?_⟩
  rw [← channelCount_eq] at h2
  let u : State := { s with fe := s.fe.updChan n ChanRec.expire }
  exact ⟨u, u.arm, (execSettleExpiry_running h1 h2 hc hset).trans (congrArg _ (tellSettled_settling hs)), rfl,
    chans_expire s.fe n, fun hm => armed_arm hm.1⟩

end Sys2Proof.Machine
end

section
/-!
SUPPORT. The link arbiter, the word of a frame, confirmations and failures in the terms of the statements (R50 to R57,
R186); and the statement about the front end's events.
-/

namespace Sys2Proof.Machine

/-! ## Frames and the arbiter -/

/-- The word of a frame, bit by bit (10.7). -/
theorem getLsbD_frameWordOf (tag : BitVec 4) (n : Nat) (g : Settings) (i : Nat) :
    (frameWordOf tag n g).getLsbD i = if i < 2 then false else if i < 3 then g.limit && decide (i = 2)
      else if i < 5 then g.coupling.getLsbD (i - 3) else if i < 9 then g.gain.getLsbD (i - 5)
      else if i < 10 then g.div100 && decide (i = 9) else if i < 12 then (BitVec.ofNat 2 (n - 1)).getLsbD (i - 10)
      else tag.getLsbD (i - 12) := by
  simp only [frameWordOf, BitVec.getLsbD_append, BitVec.getLsbD_ofBool]
  rcases lt_or_ge i 12 with h | h
  · interval_cases i <;> simp
  · have h10 : ¬ i < 10 := by omega
    have h9 : ¬ i < 9 := by omega
    have h5 : ¬ i < 5 := by omega
    have h3 : ¬ i < 3 := by omega
    have h2 : ¬ i < 2 := by omega
    simp [*]

/-- A run of bits read out of a word. -/
theorem extractLsb'_eq {w : Word} {start len : Nat} {x : BitVec len}
    (h : ∀ i < len, w.getLsbD (start + i) = x.getLsbD i) : w.extractLsb' start len = x :=
  BitVec.eq_of_getLsbD_eq fun i hi => by rw [BitVec.getLsbD_extractLsb', h i hi, decide_eq_true hi, Bool.true_and]

/-- The word of a frame has each part at its bits (R186). -/
theorem frameCarries_frameWordOf (tag : BitVec 4) (n : Nat) (g : Settings) :
    FrameCarries (frameWordOf tag n g) tag n g := by
  have bit := getLsbD_frameWordOf tag n g
  refine ⟨extractLsb'_eq fun i hi => ?_, extractLsb'_eq fun i hi => ?_, (bit 9).trans (by simp),
    extractLsb'_eq fun i hi => ?_, extractLsb'_eq fun i hi => ?_, (bit 2).trans (by simp),
    extractLsb'_eq fun i hi => ?_⟩
  all_goals
    rw [bit]
    interval_cases i <;> simp

/-- Changing one listed element is setting it. -/
theorem updateAt_eq_set {α : Type} {l : List α} {i : Nat} {x : α} (h : l[i]? = some x) (f : α → α) :
    updateAt l i f = l.set i (f x) := by
  refine List.ext_getElem? fun j => ?_
  rw [getElem?_updateAt, List.getElem?_set]
  by_cases hj : i = j
  · subst hj
    obtain ⟨hlt, -⟩ := List.getElem?_eq_some_iff.1 h
    simp only [h, hlt, Option.map_some, if_true]
  · simp [hj, Ne.symm hj]

/-- The channel that comes in place j of the cyclic order after the one last served is WAITING. -/
theorem waiting_place {f : FrontEnd} {m : Nat} (hm : m < f.chans.length) :
    (f.chan (m + 1)).upd = .waiting ↔ ∃ c, f.chans[m]? = some c ∧ c.upd = .waiting := by
  rw [FrontEnd.chan, List.getD_eq_getElem?_getD, Nat.add_sub_cancel, List.getElem?_eq_getElem hm]
  simp

/-- The arbiter does what R52 says. -/
theorem arbitrated_feArbitrate (s : State) : Arbitrated s s.feArbitrate.fe := by
  unfold Arbitrated
  intro place waits
  have hplace (j k : Nat) (hk : k < s.fe.chans.length) : place j < s.fe.chans.length := Nat.mod_lt _ (by omega)
  constructor
  · intro h
    unfold State.feArbitrate
    split
    · next n hl hn =>
      obtain ⟨h1, h2, hu⟩ := FrontEnd.waiting_of_nextWaiting hn
      rcases h with h | h
      · simp [hl] at h
      · have hlt : n - 1 < s.fe.chans.length := by omega
        have hc : s.fe.chan n = s.fe.chans[n - 1] := FrontEnd.chan_of_getElem? (List.getElem?_eq_getElem hlt)
        exact absurd (hc ▸ hu) (h _ (List.getElem_mem hlt))
    · rfl
  · intro k hl hk hw hlow
    have hn : s.fe.nextWaiting = some (place k + 1) := by
      rw [FrontEnd.nextWaiting, List.find?_map, Option.map_eq_some_iff]
      refine ⟨k, ?_, rfl⟩
      rw [List.find?_range_eq_some]
      refine ⟨?_, List.mem_range.2 hk, fun j hj => ?_⟩
      · simpa using (waiting_place (hplace k k hk)).2 hw
      · simpa using (waiting_place (hplace j k hk)).not.2 (hlow j hj)
    have ht : s.feArbitrate.fe = s.fe.send (place k + 1) (s.deriveSettings (place k + 1)) fun c =>
        { c with upd := .awaitEcho, sent := s.deriveSettings (place k + 1) } := by
      rw [State.feArbitrate, hl, hn]
    rw [ht]
    exact ⟨_, _, current_deriveSettings s _, frameCarries_frameWordOf _ _ _, rfl, fun i => getElem?_updateAt _ _ _ _⟩

/-- The arbiter looks at the front end and the live values alone. -/
theorem Arbitrated.congr {s t : State} {f : FrontEnd} (h : Arbitrated s f) (hf : t.fe = s.fe)
    (hr : t.setup.recs = s.setup.recs) : Arbitrated t f := by
  unfold Arbitrated FrameSent at h ⊢
  rw [hf, fieldVal_congr hr]
  exact h

theorem feArbitrate_busy {s : State} (h : s.fe.link.isSome = true) : s.feArbitrate = s := by
  rw [feArbitrate_eq, (arbitrated_feArbitrate s).1 (.inl h)]

/-! ## Confirmations and failures -/

/-- The front end with the update of channel n ended, whose record is d, before the arbiter looks (R54, R55). -/
def FrontEnd.freed (f : FrontEnd) (n : Nat) (d : ChanRec) : FrontEnd :=
  { f with link := none, echoTimer := none, chans := f.chans.set (n - 1) d }

theorem freed_updChan {f : FrontEnd} {n : Nat} {c : ChanRec} (h : f.chans[n - 1]? = some c) (g : ChanRec → ChanRec) :
    { f.updChan n g with link := none, echoTimer := none } = f.freed n (g c) := by
  rw [FrontEnd.updChan, FrontEnd.freed, updateAt_eq_set h]

theorem confirm_eq (c : ChanRec) :
    let moved := match c.confirmed with
      | none => true
      | some k => c.relayMoved || decide (c.sent.div100 ≠ k.div100) || decide (c.sent.coupling ≠ k.coupling)
    let confirmed := { c with confirmed := some c.sent, fault := false, relayMoved := moved, pendingLatest := false }
    c.confirm = if c.pendingLatest = true then { confirmed with upd := .waiting, attempt := 1, settle := none }
      else { confirmed with upd := .idle, settle := some (if moved = true then 5000000 else 100000) } := by
  unfold ChanRec.confirm
  cases c.pendingLatest <;> rfl

theorem fail_eq (c : ChanRec) :
    let failed := { c with fault := true, pendingLatest := false }
    c.fail = if c.pendingLatest = true then { failed with upd := .waiting, attempt := 1 }
      else { failed with upd := .idle } := by
  unfold ChanRec.fail
  cases c.pendingLatest <;> rfl

/-- The FE_FAULT flag of channel n comes to the filling segment where its snapshot enables the channel; nothing else
moves, and the acquisition alone says what does (R56). -/
theorem flagFault_eq {s u : State} (h : u.acq = s.acq) (n : Nat) :
    u.flagFault n = { u with acq := { s.acq with segs := (s.flagFault n).acq.segs } } := by
  unfold State.flagFault State.seg
  rw [h]
  cases s.acq.fillingIdx with
  | none => simp only [← h]
  | some i =>
    dsimp only
    split
    · simp only [State.setSeg, Acq.setSeg, h]
    · simp only [← h]

theorem wf_flagFault {s : State} (h : Cells.wf Seg.blank s.acq.segs = true) (n : Nat) :
    Cells.wf Seg.blank (s.flagFault n).acq.segs = true := by
  unfold State.flagFault
  split
  · split
    · exact Cells.wf_put h _ _
    · exact h
  · exact h

theorem seg_flagFault {s : State} (hw : Cells.wf Seg.blank s.acq.segs = true) {n : Nat} (hn : 1 ≤ n) (j : Nat) :
    (s.flagFault n).acq.seg j = { s.acq.seg j with fault := ((s.flagFault n).acq.seg j).fault }
      ∧ ∀ b < 4, ((s.flagFault n).acq.seg j).fault.getLsbD b = ((s.acq.seg j).fault.getLsbD b
        || decide (s.acq.fillingIdx = some j ∧ n ∈ s.acq.segChannels (s.acq.seg j) ∧ b = n - 1)) := by
  by_cases hj : s.acq.fillingIdx = some j ∧ n ∈ s.acq.segChannels (s.acq.seg j)
  · obtain ⟨hi, hc⟩ := hj
    have flagged : (s.flagFault n).acq.seg j
        = { s.acq.seg j with fault := (s.acq.seg j).fault ||| chanBits [n] } := by
      unfold State.flagFault
      simp only [hi, State.seg_eq, List.contains_iff_mem, hc, if_true]
      rw [State.setSeg, Acq.seg_setSeg hw, if_pos rfl]
    rw [flagged]
    refine ⟨rfl, fun b hb => ?_⟩
    have bit : (chanBits [n]).getLsbD b = decide (b = n - 1) := by
      rw [getLsbD_chanBits [n] ⟨b, hb⟩, Bool.eq_iff_iff]
      simp only [List.contains_iff_mem, List.mem_singleton, decide_eq_true_eq]
      omega
    simp only [BitVec.getLsbD_or, bit, hi, hc, true_and]
  · have untouched : (s.flagFault n).acq.seg j = s.acq.seg j := by
      unfold State.flagFault
      split
      · next i hi =>
        split
        · next hc =>
          rw [State.setSeg, Acq.seg_setSeg hw, if_neg]
          rintro rfl
          exact hj ⟨hi, List.contains_iff_mem.1 hc⟩
        · rfl
      · rfl
    rw [untouched]
    refine ⟨rfl, fun b _ => ?_⟩
    rw [decide_eq_false fun k => hj ⟨k.1, k.2.1⟩, Bool.or_false]

/-! ## The events -/

theorem execEcho_stray {s : State} {w : Word}
    (h : s.fe.link = none ∨ ∃ f, s.fe.link = some f ∧ w.extractLsb' 12 4 ≠ f.word.extractLsb' 12 4) :
    execEcho w s = .next s := by
  rcases h with h | ⟨f, h, hne⟩
  · rw [execEcho, h]
  · rw [execEcho, h]
    exact congrArg _ (if_neg hne)

theorem execEcho_equal {s : State} {f : Flight} {w : Word} (h : s.fe.link = some f)
    (ht : w.extractLsb' 12 4 = f.word.extractLsb' 12 4) (he : w.extractLsb' 2 10 = f.word.extractLsb' 2 10) :
    execEcho w s = .next (s.feConfirm f.chan).feFinish := by
  rw [execEcho, h]
  exact congrArg _ ((if_pos ht).trans (if_pos (beq_iff_eq.2 he)))

/-- An unequal echo and an expiry of the echo timer are one event (R53, R55). -/
theorem exec_mismatch {s : State} {f : Flight} {ev : Instr} (h : s.fe.link = some f)
    (hev : ev = .echoTimeout ∨ ∃ w, ev = .echo w ∧ w.extractLsb' 12 4 = f.word.extractLsb' 12 4
      ∧ w.extractLsb' 2 10 ≠ f.word.extractLsb' 2 10) : exec ev s = .next (s.feMismatch f.chan).feFinish := by
  rcases hev with rfl | ⟨w, rfl, ht, hne⟩
  · change execEchoTimeout s = _
    rw [execEchoTimeout, h]
  · change execEcho w s = _
    rw [execEcho, h]
    exact congrArg _ ((if_pos ht).trans (if_neg fun k => hne (beq_iff_eq.1 k)))

/-- Told of the front end, the acquisition arms in SETTLING and is left alone otherwise (R58). -/
theorem tellSettled_arms {u : State} (hw : Cells.wf Seg.blank u.acq.segs = true) :
    (u.acq.state ≠ .settling → u.tellSettled = u) ∧ (u.acq.state = .settling → Armed u u.tellSettled) :=
  ⟨fun h => if_neg h, fun h => by rw [State.tellSettled, if_pos h]; exact armed_arm hw⟩

theorem feConfirm_eq {s : State} {n : Nat} {c : ChanRec} (hc : s.fe.chans[n - 1]? = some c) :
    s.feConfirm n = { s with fe := s.fe.freed n c.confirm } := by rw [State.feConfirm, freed_updChan hc]

/-- A first mismatch resends at once with the next tag and the live settings (R55). -/
theorem feMismatch_first {s : State} {n : Nat} {c : ChanRec} (hc : s.fe.chans[n - 1]? = some c) (ha : c.attempt = 1) :
    s.feMismatch n = { s with fe := { s.fe with
      chans := s.fe.chans.set (n - 1)
        { c with upd := .awaitEcho, attempt := 2, sent := s.deriveSettings n, pendingLatest := false }
      link := some ⟨n, frameWordOf (s.fe.tag + 1) n (s.deriveSettings n)⟩
      tag := s.fe.tag + 1, lastServed := n, echoTimer := some 200000 } } := by
  rw [State.feMismatch, if_pos (by rw [FrontEnd.chan_of_getElem? hc, ha]), FrontEnd.send, FrontEnd.updChan,
    updateAt_eq_set hc]
  rfl

/-- The second ends the update in FAULT (R55, R56). -/
theorem feMismatch_second {s : State} {n : Nat} {c : ChanRec} (hc : s.fe.chans[n - 1]? = some c) (ha : c.attempt ≠ 1) :
    s.feMismatch n = { s with
      fe := s.fe.freed n c.fail
      acq := { s.acq with segs := (s.flagFault n).acq.segs }
      portA := s.portA.takeNotice (.feFault n)
      portB := s.portB.takeNotice (.feFault n) } := by
  rw [State.feMismatch, if_neg (by rw [FrontEnd.chan_of_getElem? hc]; exact ha), freed_updChan hc,
    flagFault_eq (s := s) (u := { s with fe := s.fe.freed n c.fail }) rfl]
  rfl

/-- The front end and the ports are no part of an arm. -/
theorem arm_beside (s : State) : s.arm.fe = s.fe ∧ s.arm.portA = s.portA ∧ s.arm.portB = s.portB := by
  have reused (s : State) : s.reuseCurrent.fe = s.fe ∧ s.reuseCurrent.portA = s.portA
      ∧ s.reuseCurrent.portB = s.portB := by
    unfold State.reuseCurrent
    split
    · exact ⟨rfl, rfl, rfl⟩
    · split
      · split <;> exact ⟨rfl, rfl, rfl⟩
      · exact ⟨rfl, rfl, rfl⟩
  unfold State.arm
  split
  · unfold State.slotChoice
    dsimp only
    split
    · next i e snaps _ _ =>
      obtain ⟨-, -, -, hf, -, -, ha, hb⟩ := enterFilling_passes s.reuseCurrent i e snaps
      obtain ⟨rf, ra, rb⟩ := reused s
      exact ⟨hf.trans rf, ha.trans ra, hb.trans rb⟩
    · exact reused s
  · exact ⟨rfl, rfl, rfl⟩

theorem tellSettled_beside (s : State) :
    s.tellSettled.fe = s.fe ∧ s.tellSettled.portA = s.portA ∧ s.tellSettled.portB = s.portB := by
  unfold State.tellSettled
  split
  · exact arm_beside s
  · exact ⟨rfl, rfl, rfl⟩

/-- A channel's settle timer runs, as the list of records says it. -/
theorem settle_chan (f : FrontEnd) (n : Nat) : (f.chan n).settle = (f.chans[n - 1]?).bind (·.settle) := by
  rw [FrontEnd.chan, List.getD_eq_getElem?_getD]
  cases f.chans[n - 1]? <;> rfl

/-! ## The statement -/

theorem echo_confirms {s : State} {f : Flight} {c : ChanRec} {w : Word} (hl : s.fe.link = some f)
    (hc : s.fe.chans[f.chan - 1]? = some c) (ht : w.extractLsb' 12 4 = f.word.extractLsb' 12 4)
    (he : w.extractLsb' 2 10 = f.word.extractLsb' 2 10) :
    ∃ u t, exec (.echo w) s = .next t ∧ Inner s t ∧ u = { s with fe := u.fe } ∧ LinkFreed s u.fe f.chan c.confirm
      ∧ (s.acq.state ≠ .settling → t = u) ∧ (s.acq.state = .settling → MemoryLaw s → Armed u t) := by
  have hu : (s.feConfirm f.chan).feArbitrate = { s with fe := (s.feConfirm f.chan).feArbitrate.fe } := by
    rw [feArbitrate_eq]
    rfl
  have hacq : (s.feConfirm f.chan).feArbitrate.acq = s.acq := by rw [hu]
  refine ⟨(s.feConfirm f.chan).feArbitrate, (s.feConfirm f.chan).feFinish, execEcho_equal hl ht he,
    (inner_feConfirm s _).trans (inner_feFinish _), hu, ?_, fun hs => ?_, fun hs hm => ?_⟩
  · have h := arbitrated_feArbitrate (s.feConfirm f.chan)
    exact h.congr (congrArg State.fe (feConfirm_eq hc)).symm rfl
  · exact (tellSettled_of_ne (by rw [hacq]; exact hs))
  · exact (tellSettled_arms (by rw [hacq]; exact hm.1)).2 (by rw [hacq]; exact hs)

theorem mismatch_judged {s : State} {f : Flight} {c : ChanRec} (hm : MemoryLaw s) (h1 : 1 ≤ f.chan)
    (hc : s.fe.chans[f.chan - 1]? = some c) :
    let u := (s.feMismatch f.chan).feArbitrate
    (c.attempt = 1 → ∃ g w, Current s.fieldVal f.chan g ∧ FrameCarries w (s.fe.tag + 1) f.chan g
      ∧ u = { s with fe := { s.fe with
        chans := s.fe.chans.set (f.chan - 1)
          { c with upd := .awaitEcho, attempt := 2, sent := g, pendingLatest := false }
        link := some ⟨f.chan, w⟩, tag := s.fe.tag + 1, lastServed := f.chan, echoTimer := some 200000 } })
    ∧ (c.attempt ≠ 1 → LinkFreed s u.fe f.chan c.fail
      ∧ u = { s with
        fe := u.fe
        acq := { s.acq with segs := u.acq.segs }
        portA := s.portA.takeNotice (.feFault f.chan)
        portB := s.portB.takeNotice (.feFault f.chan) }
      ∧ ∀ j, u.acq.seg j = { s.acq.seg j with fault := (u.acq.seg j).fault }
        ∧ ∀ b < 4, (u.acq.seg j).fault.getLsbD b = ((s.acq.seg j).fault.getLsbD b
          || decide (s.acq.fillingIdx = some j ∧ f.chan ∈ s.acq.segChannels (s.acq.seg j) ∧ b = f.chan - 1))) := by
  intro u
  refine ⟨fun ha => ?_, fun ha => ?_⟩
  · refine ⟨s.deriveSettings f.chan, frameWordOf (s.fe.tag + 1) f.chan (s.deriveSettings f.chan),
      current_deriveSettings s _, frameCarries_frameWordOf _ _ _, ?_⟩
    have hsent := feMismatch_first hc ha
    exact (feArbitrate_busy (by rw [hsent]; rfl)).trans hsent
  · have hfail := feMismatch_second hc ha
    have hu : u = { s.feMismatch f.chan with fe := u.fe } := feArbitrate_eq _
    have hseg (j : Nat) : u.acq.seg j = (s.flagFault f.chan).acq.seg j := by
      rw [hu, hfail]
      rfl
    refine ⟨?_, ?_, fun j => ?_⟩
    · have h := arbitrated_feArbitrate (s.feMismatch f.chan)
      exact h.congr (by rw [hfail]; rfl) (by rw [hfail])
    · rw [hu, hfail]
    · rw [hseg]
      exact seg_flagFault hm.1 h1 j

/-- Settles O51: event by event; what follows each is the arbiter's act and the telling of the acquisition. -/
theorem frontEndEvents : Obligations.FrontEndEvents := by
  refine ⟨fun s w h => execEcho_stray h, fun s f c w hl h1 hc ht he => ?_,
    fun s f c ev hm hl h1 hc hev => ?_, fun s ch => ?_⟩
  · intro moved confirmed d
    have hd : c.confirm = d := confirm_eq c
    exact hd ▸ echo_confirms hl hc ht he
  · rw [exec_mismatch hl hev]
    obtain ⟨hfirst, hsecond⟩ := mismatch_judged hm h1 hc
    have hstate : (s.feMismatch f.chan).feArbitrate.acq.state = s.acq.state := by
      by_cases ha : c.attempt = 1
      · obtain ⟨g, w, -, -, hu⟩ := hfirst ha
        rw [hu]
      · rw [(hsecond ha).2.1]
    have hwf : Cells.wf Seg.blank (s.feMismatch f.chan).feArbitrate.acq.segs = true := by
      by_cases ha : c.attempt = 1
      · obtain ⟨g, w, -, -, hu⟩ := hfirst ha
        rw [hu]
        exact hm.1
      · rw [feArbitrate_eq, feMismatch_second hc ha]
        exact wf_flagFault hm.1 _
    have hfail : c.fail = _ := fail_eq c
    rw [hfail] at hsecond
    exact ⟨_, _, rfl, (inner_feMismatch s _).trans (inner_feFinish _),
      fun hs => (tellSettled_arms hwf).1 (hstate ▸ hs), fun hs => (tellSettled_arms hwf).2 (hstate.trans hs),
      hfirst, hsecond⟩
  · rw [← channelCount_eq]
    by_cases h : 1 ≤ ch ∧ ch ≤ channelCount s.straps ∧ (s.fe.chans[ch - 1]?).bind (·.settle) ≠ none
    · have hrun := h
      rw [← settle_chan] at hrun
      let u : State := { s with fe := s.fe.updChan ch ChanRec.expire }
      obtain ⟨hf, ha, hb⟩ := tellSettled_beside u
      refine ⟨u.tellSettled, congrArg _ (if_pos hrun), ?_⟩
      rw [if_pos h]
      refine ⟨(Inner.update s _ _ _ _ _).trans (inner_tellSettled u), hf.trans (by rw [hf]; rfl), ha, hb,
        fun hs => by rw [tellSettled_of_ne (s := u) hs], fun i => ?_⟩
      rw [hf]
      exact chans_expire s.fe ch i
    · have hstopped := h
      rw [← settle_chan] at hstopped
      exact ⟨s, congrArg _ (if_neg hstopped), by rw [if_neg h]⟩

end Sys2Proof.Machine
end

section
/-!
SUPPORT. The trigger unit at one kept sample: the trackers, the EXT filter, the firings and each part of the width
counter, one lemma a function (R64 to R69); and the statements about them.
-/

namespace Sys2Proof.Machine

/-! ## Trackers and filter (R64 to R66) -/

theorem trackRising_armed (level hyst code : Nat) :
    trackRising level hyst true code = (!decide (level ≤ code), decide (level ≤ code)) := rfl

theorem trackRising_unarmed (level hyst code : Nat) :
    trackRising level hyst false code = (decide (code ≤ level - hyst), false) := rfl

theorem trackFalling_armed (level hyst code : Nat) :
    trackFalling level hyst true code = (!decide (code ≤ level), decide (code ≤ level)) := rfl

theorem trackFalling_unarmed (level hyst code : Nat) :
    trackFalling level hyst false code = (decide (min 255 (level + hyst) ≤ code), false) := rfl

/-- The RISING tracker fires where its flag stood and the sample is at or above the level (R64). -/
theorem trackRising_fires (level hyst code : Nat) (seen : Bool) :
    (trackRising level hyst seen code).2 = true ↔ seen = true ∧ level ≤ code := by
  cases seen
  · simp [trackRising_unarmed]
  · simp [trackRising_armed]

/-- The FALLING tracker fires where its flag stood and the sample is at or below the level (R65). -/
theorem trackFalling_fires (level hyst code : Nat) (seen : Bool) :
    (trackFalling level hyst seen code).2 = true ↔ seen = true ∧ code ≤ level := by
  cases seen
  · simp [trackFalling_unarmed]
  · simp [trackFalling_armed]

theorem filterExt_none (n : Nat) (raw : Bool) : filterExt .none n raw = (extLevelOf raw, 0, false) := rfl

theorem filterExt_same {lvl : ExtLevel} {raw : Bool} (hn : lvl ≠ .none) (h : lvl = extLevelOf raw) (n : Nat) :
    filterExt lvl n raw = (lvl, 0, false) := by
  cases lvl with
  | none => exact absurd rfl hn
  | low => exact if_pos h
  | high => exact if_pos h

/-- A sample of another level than the accepted one counts, and the third in a row is an edge (R66). -/
theorem filterExt_other {lvl : ExtLevel} {raw : Bool} (hn : lvl ≠ .none) (h : lvl ≠ extLevelOf raw) (n : Nat) :
    filterExt lvl n raw = if n < 2 then (lvl, n + 1, false) else (extLevelOf raw, 0, true) := by
  cases lvl with
  | none => exact absurd rfl hn
  | low => exact if_neg h
  | high => exact if_neg h

/-- An EXT edge leaves the filter at LOW or HIGH. -/
theorem filterExt_edge {lvl : ExtLevel} {n : Nat} {raw : Bool} (h : (filterExt lvl n raw).2.2 = true) :
    (filterExt lvl n raw).1 = .low ∨ (filterExt lvl n raw).1 = .high := by
  have level : extLevelOf raw = .low ∨ extLevelOf raw = .high := by cases raw <;> simp [extLevelOf]
  by_cases hn : lvl = .none
  · subst hn
    exact level
  · by_cases hl : lvl = extLevelOf raw
    · exact (filterExt_same hn hl n) ▸ hl ▸ level
    · rw [filterExt_other hn hl] at h ⊢
      split at h
      · cases h
      · rename_i h2
        rw [if_neg h2]
        exact level

/-! ## Firings (R65, R67) -/

/-- What the filter and the trackers leave of the unit: everything but the two flags and the filter's own. -/
theorem edges_frame (u : Trig) (v : Nat → Int) (code : Nat) (raw : Bool) : (u.edges v code raw).1 = { u with
    lowSeen := (u.edges v code raw).1.lowSeen
    highSeen := (u.edges v code raw).1.highSeen
    ext := (filterExt u.ext u.extCount raw).1
    extCount := (filterExt u.ext u.extCount raw).2.1 } := by
  unfold Trig.edges
  dsimp only
  split <;> rfl

theorem edges_ext {u : Trig} {v : Nat → Int} (h : v 41 = 4) (code : Nat) (raw : Bool) : u.edges v code raw
    = ({ u with ext := (filterExt u.ext u.extCount raw).1, extCount := (filterExt u.ext u.extCount raw).2.1 },
      extFirings v (filterExt u.ext u.extCount raw).2.2 (filterExt u.ext u.extCount raw).1) :=
  if_pos (decide_eq_true h)

theorem edges_channel {u : Trig} {v : Nat → Int} (h : v 41 ≠ 4) (code : Nat) (raw : Bool) : u.edges v code raw
    = ({ u with
        ext := (filterExt u.ext u.extCount raw).1
        extCount := (filterExt u.ext u.extCount raw).2.1
        lowSeen := (trackRising (v 43).toNat (v 44).toNat u.lowSeen code).1
        highSeen := (trackFalling (v 43).toNat (v 44).toNat u.highSeen code).1 },
      ((trackRising (v 43).toNat (v 44).toNat u.lowSeen code).2,
        (trackFalling (v 43).toNat (v 44).toNat u.highSeen code).2)) :=
  if_neg (by simpa [sourceIsExt] using h)

/-- The sample has a RISING firing (R64, R67). -/
theorem edges_rises (u : Trig) (v : Nat → Int) (code : Nat) (raw : Bool) : (u.edges v code raw).2.1 = true ↔
    if v 41 = 4 then (filterExt u.ext u.extCount raw).2.2 = true
        ∧ (filterExt u.ext u.extCount raw).1 = (if v 51 = 1 then .low else .high)
      else u.lowSeen = true ∧ (v 43).toNat ≤ code := by
  by_cases h : v 41 = 4
  · rw [if_pos h, edges_ext h]
    simp only [extFirings, Bool.and_eq_true]
    refine and_congr_right fun he => ?_
    rcases filterExt_edge he with hl | hl <;> rw [hl] <;> by_cases hp : v 51 = 1 <;> simp [hp]
  · rw [if_neg h, edges_channel h]
    exact trackRising_fires _ _ _ _

/-- The sample has a FALLING firing (R65, R67). -/
theorem edges_falls (u : Trig) (v : Nat → Int) (code : Nat) (raw : Bool) : (u.edges v code raw).2.2 = true ↔
    if v 41 = 4 then (filterExt u.ext u.extCount raw).2.2 = true
        ∧ (filterExt u.ext u.extCount raw).1 = (if v 51 = 1 then .high else .low)
      else u.highSeen = true ∧ code ≤ (v 43).toNat := by
  by_cases h : v 41 = 4
  · rw [if_pos h, edges_ext h]
    simp only [extFirings, Bool.and_eq_true]
    refine and_congr_right fun he => ?_
    rcases filterExt_edge he with hl | hl <;> rw [hl] <;> by_cases hp : v 51 = 1 <;> simp [hp]
  · rw [if_neg h, edges_channel h]
    exact trackFalling_fires _ _ _ _

/-! ## The width counter (R68, R69) -/

/-- The sample has a firing that opens a POSITIVE pulse: RISING, and TRIG_SLOPE selects it. -/
def opensPositive (v : Nat → Int) (fire : Firings) : Bool := fire.1 && (decide (v 42 = 0) || decide (v 42 = 2))

/-- The sample has a firing that opens a NEGATIVE pulse: FALLING, and TRIG_SLOPE selects it. -/
def opensNegative (v : Nat → Int) (fire : Firings) : Bool := fire.2 && (decide (v 42 = 1) || decide (v 42 = 2))

theorem opensPositive_iff (v : Nat → Int) (fire : Firings) :
    opensPositive v fire = true ↔ fire.1 = true ∧ (v 42 = 0 ∨ v 42 = 2) := by simp [opensPositive]

theorem opensNegative_iff (v : Nat → Int) (fire : Firings) :
    opensNegative v fire = true ↔ fire.2 = true ∧ (v 42 = 1 ∨ v 42 = 2) := by simp [opensNegative]

theorem closes_iff (w : WidthState) (fire : Firings) :
    closes w fire = true ↔ (w = .positive ∧ fire.2 = true) ∨ (w = .negative ∧ fire.1 = true) := by
  cases w <;> simp [closes]

/-- The count after a sample of a unit: an open pulse counts it, up to the greatest count (R68). -/
def widthCounted (t : Trig) : Nat := if t.wstate = .idle then t.wcount else min 16777215 (t.wcount + 1)

/-- The count is full, or was (R68). -/
def saturatedAfter (t : Trig) : Bool := t.saturated || (decide (t.wstate ≠ .idle) && decide (16777215 ≤ t.wcount))

theorem countWidth_eq (t : Trig) :
    t.countWidth = { t with wcount := widthCounted t, saturated := saturatedAfter t } := by
  obtain ⟨low, high, wstate, wcount, saturated⟩ := t
  cases wstate with
  | idle => simp [Trig.countWidth, widthCounted, saturatedAfter]
  | positive => rfl
  | negative => rfl

/-- The width counter at a sample: the end edge of an open pulse and then the start edge of a new one (R68, R69). -/
theorem width_eq (t : Trig) (v : Nat → Int) (fire : Firings) : t.width v fire = { t with
    wstate := if opensPositive v fire then .positive else if opensNegative v fire then .negative
      else if closes t.wstate fire then .idle else t.wstate
    wcount := if opensPositive v fire || opensNegative v fire then 0 else widthCounted t
    saturated := !(opensPositive v fire || opensNegative v fire) && saturatedAfter t
    capA := if closes t.wstate fire then widthCounted t else t.capA
    capB := if closes t.wstate fire then t.capA else t.capB } := by
  have ended : t.countWidth.endEdge fire = { t.countWidth with
      wstate := if closes t.wstate fire then .idle else t.wstate
      capA := if closes t.wstate fire then widthCounted t else t.capA
      capB := if closes t.wstate fire then t.capA else t.capB } := by
    rw [countWidth_eq]
    unfold Trig.endEdge
    cases closes t.wstate fire <;> rfl
  have started (u : Trig) : u.startEdge v fire = if opensPositive v fire then
      { u with wcount := 0, saturated := false, wstate := .positive }
    else if opensNegative v fire then { u with wcount := 0, saturated := false, wstate := .negative }
    else u := rfl
  unfold Trig.width
  rw [started, ended, countWidth_eq]
  cases opensPositive v fire
  · cases opensNegative v fire <;> rfl
  · rfl

/-- The unit after a kept sample: the flags and the filter as the trackers leave them, the width counter by the
firings. -/
theorem track_eq (u : Trig) (v : Nat → Int) (code : Nat) (raw : Bool) : (u.track v code raw).1 =
    let e := u.edges v code raw
    { u with
      lowSeen := e.1.lowSeen
      highSeen := e.1.highSeen
      ext := (filterExt u.ext u.extCount raw).1
      extCount := (filterExt u.ext u.extCount raw).2.1
      wstate := if opensPositive v e.2 then .positive else if opensNegative v e.2 then .negative
        else if closes u.wstate e.2 then .idle else u.wstate
      wcount := if opensPositive v e.2 || opensNegative v e.2 then 0 else widthCounted u
      saturated := !(opensPositive v e.2 || opensNegative v e.2) && saturatedAfter u
      capA := if closes u.wstate e.2 then widthCounted u else u.capA
      capB := if closes u.wstate e.2 then u.capA else u.capB } := by
  refine (width_eq _ v _).trans ?_
  rw [edges_frame]
  rfl

/-- Tracking leaves the PROBE_COMP wave alone (R70). -/
theorem probe_track (u : Trig) (v : Nat → Int) (code : Nat) (raw : Bool) :
    (u.track v code raw).1.probe = u.probe := by
  rw [track_eq]

/-- WIDTH_COND on a width (R69). -/
theorem widthMet_iff (v : Nat → Int) (w : Nat) : widthMet v w = true ↔
    if v 45 = 0 then w < (v 47).toNat else if v 45 = 1 then (v 46).toNat < w
    else if v 45 = 2 then (v 46).toNat ≤ w ∧ w ≤ (v 47).toNat else w < (v 46).toNat ∨ (v 47).toNat < w := by
  show (if v 45 = 0 then decide (w < (v 47).toNat) else if v 45 = 1 then decide ((v 46).toNat < w)
    else if v 45 = 2 then decide ((v 46).toNat ≤ w) && decide (w ≤ (v 47).toNat)
    else decide (w < (v 46).toNat) || decide ((v 47).toNat < w)) = true ↔ _
  split_ifs
  · exact decide_eq_true_iff
  · exact decide_eq_true_iff
  · rw [Bool.and_eq_true, decide_eq_true_iff, decide_eq_true_iff]
  · rw [Bool.or_eq_true, decide_eq_true_iff, decide_eq_true_iff]

theorem candidate_iff (t : Trig) (v : Nat → Int) (fire : Firings) : candidate t v fire = true ↔
    if v 40 = 0 then opensPositive v fire = true ∨ opensNegative v fire = true
    else closes t.wstate fire = true ∧ widthMet v (widthCounted t) = true := by
  unfold candidate
  rw [countWidth_eq]
  split
  · exact Bool.or_eq_true _ _ ▸ Iff.rfl
  · exact Bool.and_eq_true _ _ ▸ Iff.rfl

/-! ## The statements -/

/-- Settles O20: each tracker and the filter by their flag or level before, and the unit by the source selected. -/
theorem edgeTrackers : Obligations.EdgeTrackers := by
  refine ⟨fun level hyst code seen => ?_, fun level hyst code seen => ?_, filterExt_none,
    fun lvl raw hn => ⟨fun h n => filterExt_same hn h n, fun h => ?_⟩, fun u v code raw => ?_, fun _ => rfl⟩
  · refine ⟨?_, ?_, ?_, ?_⟩ <;> rintro ⟨rfl, h⟩
    · simp [trackRising_armed, h]
    · simp [trackRising_armed, h]
    · have : code ≤ level - hyst := by omega
      simp [trackRising_unarmed, this]
    · have : ¬ code ≤ level - hyst := by omega
      simp [trackRising_unarmed, this]
  · refine ⟨?_, ?_, ?_, ?_⟩ <;> rintro ⟨rfl, h⟩
    · simp [trackFalling_armed, h]
    · simp [trackFalling_armed, h]
    · rw [trackFalling_unarmed, decide_eq_true h]
    · rw [trackFalling_unarmed, decide_eq_false (not_le.2 h)]
  · exact ⟨filterExt_other hn h 0, filterExt_other hn h 1, filterExt_other hn h 2⟩
  · intro t x
    have ht : t = _ := track_eq u v code raw
    refine ⟨congrArg Trig.ext ht, congrArg Trig.extCount ht, fun h => ?_, fun h => ?_⟩
    · rw [ht, edges_channel h]
      exact ⟨rfl, rfl⟩
    · rw [ht, edges_ext h]
      exact ⟨rfl, rfl⟩

/-- Settles O21: the firings, then the width counter and the candidate in their terms. -/
theorem triggerDecision : Obligations.TriggerDecision := by
  intro u v code raw t x rise fall rising falling ends w lo hi met
  have hrise : (u.edges v code raw).2.1 = true ↔ rise := edges_rises u v code raw
  have hfall : (u.edges v code raw).2.2 = true ↔ fall := edges_falls u v code raw
  have hcand : (u.track v code raw).2 = true ↔ _ := candidate_iff _ _ _
  have ht : t = _ := track_eq u v code raw
  have hmet : widthMet v w = true ↔ met := widthMet_iff v w
  rw [edges_frame] at hcand
  generalize u.edges v code raw = e at hrise hfall hcand ht
  obtain ⟨e, fire⟩ := e
  have hends : closes u.wstate fire = true ↔ ends := by rw [closes_iff, hfall, hrise]
  have hrising : opensPositive v fire = true ↔ rising := by rw [opensPositive_iff, hrise]
  have hfalling : opensNegative v fire = true ↔ falling := by rw [opensNegative_iff, hfall]
  refine ⟨?_, fun he => ?_, fun he => ?_, fun hr => ?_, fun hr hf => ?_, fun ho => ?_, fun hr hf => ?_, ?_⟩
  · refine hcand.trans ?_
    rw [hrising, hfalling, ← hends, ← hmet]
    rfl
  · rw [ht]
    simp only [hends.2 he]
    exact ⟨rfl, rfl⟩
  · rw [ht]
    simp only [Bool.eq_false_of_not_eq_true (mt hends.1 he)]
    exact ⟨rfl, rfl⟩
  · simp [ht, hrising.2 hr]
  · simp [ht, mt hrising.1 hr, hfalling.2 hf]
  · have hopens : (opensPositive v fire || opensNegative v fire) = true := by
      rw [Bool.or_eq_true, hrising, hfalling]
      exact ho
    simp [ht, hopens]
  · have hp : opensPositive v fire = false := Bool.eq_false_of_not_eq_true (mt hrising.1 hr)
    have hn : opensNegative v fire = false := Bool.eq_false_of_not_eq_true (mt hfalling.1 hf)
    simp only [ht, hp, hn]
    refine ⟨rfl, fun he => ?_, fun he => ?_, ?_⟩
    · simp [hends.2 he]
    · simp [mt hends.1 he]
    · simp [saturatedAfter]
  · rw [ht]

end Sys2Proof.Machine
end

section
/-!
SUPPORT. The descriptor, the state word of TRIGGER_STATUS and the flags word of SEGMENT_INFO in the layouts of the
statements (R104, R180, R185); and the statement about the requests that only read.
-/

namespace Sys2Proof.Machine

/-- The descriptor that each setting of the straps gives (R180). -/
theorem descriptor_eq (st : Straps) : descriptor st =
    [1, if st.channels = .four then 4 else 2] ++ words32 (if st.depth = .twentyMillion then 20000000 else 10000000)
      ++ (if st.panel = .l then [1, 64, 8] else [0, 48, 6])
      ++ [if st.channels = .four then 56 else 42, 16, 512, 64] := by
  have ids : word (presentIds st).length = if st.channels = .four then 56 else 42 := by
    obtain ⟨c, d, p⟩ := st
    cases c <;> rfl
  have head : word (channelCount st) = if st.channels = .four then 4 else 2 := by
    rw [channelCount_eq]
    split <;> rfl
  have depth : wordsNat (depthOf st) = words32 (if st.depth = .twentyMillion then 20000000 else 10000000) := by
    unfold depthOf
    cases st.depth <;> rfl
  unfold descriptor
  rw [ids, head, depth]
  obtain ⟨c, d, p⟩ := st
  cases p <;> rfl

/-- The state word of TRIGGER_STATUS, part by part (R185). -/
theorem trigStateWord_eq (t : Trig) : trigStateWord t =
    (0 : BitVec 10) ++ ((match t.wstate with
        | .idle => (0 : BitVec 2)
        | .positive => 1
        | .negative => 2)
      ++ (BitVec.ofBool t.forced ++ (BitVec.ofBool t.highSeen
        ++ (BitVec.ofBool t.lowSeen ++ BitVec.ofBool t.saturated)))) := by
  have bits : ∀ (sat low high forced : Bool) (w : BitVec 2),
      word (bitIf sat 1 + bitIf low 2 + bitIf high 4 + bitIf forced 8 + 16 * w.toNat)
        = (0 : BitVec 10) ++ (w ++ (BitVec.ofBool forced ++ (BitVec.ofBool high
          ++ (BitVec.ofBool low ++ BitVec.ofBool sat)))) := by decide
  unfold trigStateWord
  rw [← bits]
  cases t.wstate <;> rfl

theorem autoWords_eq (l : Option Nat) : autoWords l = match l with
    | none => [0xFFFF, 0xFFFF]
    | some l => words32 (BitVec.ofNat 32 ((l + 999999) / 1000000)) := by cases l <;> rfl

/-! ## The flags word of SEGMENT_INFO (R185) -/

/-- The flags word as a chain of bit fields, the highest first. -/
theorem segFlagsWord_layout (g : Seg) (enabled : BitVec 4) : segFlagsWord g enabled = word
    (2 ^ 4 * (2 ^ 4 * (2 ^ 4 * (2 ^ 1 * (2 ^ 1 * g.current.toNat + g.pending.toNat)
      + (g.auto && decide (g.state = .complete)).toNat) + g.fault.toNat) + g.ovr.toNat) + enabled.toNat) := by
  have weight (b : Bool) (n : Nat) : bitIf b n = n * b.toNat := by cases b <;> simp [bitIf]
  unfold segFlagsWord
  simp only [weight]
  congr 1
  omega

/-- The flags word, bit by bit. -/
theorem getLsbD_segFlagsWord (g : Seg) (enabled : BitVec 4) (i : Nat) : (segFlagsWord g enabled).getLsbD i =
    if i < 4 then enabled.getLsbD i
    else if i < 8 then g.ovr.getLsbD (i - 4)
    else if i < 12 then g.fault.getLsbD (i - 8)
    else if i < 13 then (g.auto && decide (g.state = .complete))
    else if i < 14 then g.pending
    else if i < 15 then g.current
    else false := by
  rw [segFlagsWord_layout]
  simp only [word, BitVec.getLsbD_ofNat]
  rw [Nat.testBit_two_pow_mul_add _ enabled.isLt, Nat.testBit_two_pow_mul_add _ g.ovr.isLt,
    Nat.testBit_two_pow_mul_add _ g.fault.isLt, Nat.testBit_two_pow_mul_add _ (Bool.toNat_lt _),
    Nat.testBit_two_pow_mul_add _ (Bool.toNat_lt _)]
  have odd (b : Bool) : decide (b.toNat % 2 = 1) = b := by cases b <;> rfl
  rcases lt_or_ge i 16 with h | h
  · interval_cases i <;> simp [Nat.testBit_bool_toNat, BitVec.getLsbD, odd]
  · simp [show ¬ i < 16 by omega, show ¬ i < 4 by omega, show ¬ i < 8 by omega, show ¬ i < 12 by omega,
      show ¬ i < 13 by omega, show ¬ i < 14 by omega, show ¬ i < 15 by omega]

/-! ## SEGMENT_INFO (R104) -/

/-- A record as SEGMENT_INFO shows it: the parts that a completion decides are clear before it (R104). -/
def Seg.shown (g : Seg) : Seg :=
  if g.state = .complete then g else { g with ovr := 0, auto := false, pending := false, current := false }

theorem Seg.shown_eq (g : Seg) : g.shown = { g with
    ovr := if g.state = .complete then g.ovr else 0
    auto := decide (g.state = .complete) && g.auto
    pending := decide (g.state = .complete) && g.pending
    current := decide (g.state = .complete) && g.current } := by
  unfold Seg.shown
  split
  · next h => rw [decide_eq_true h, Bool.true_and, Bool.true_and, Bool.true_and]
  · next h => simp [h]

/-- The flags word of a segment as it is shown, bit by bit (R185). -/
theorem getLsbD_shownFlags (a : Acq) (g : Seg) :
    let flags := segFlagsWord g.shown (chanBits (a.segChannels g))
    (∀ c : Fin 4, flags.getLsbD c = (a.segChannels g).contains (c + 1)
        ∧ flags.getLsbD (4 + c) = (decide (g.state = .complete) && g.ovr.getLsbD c)
        ∧ flags.getLsbD (8 + c) = g.fault.getLsbD c)
      ∧ flags.getLsbD 12 = (decide (g.state = .complete) && g.auto)
      ∧ flags.getLsbD 13 = (decide (g.state = .complete) && g.pending)
      ∧ flags.getLsbD 14 = (decide (g.state = .complete) && g.current)
      ∧ flags.getLsbD 15 = false := by
  intro flags
  simp only [flags, getLsbD_segFlagsWord, Seg.shown_eq]
  refine ⟨fun c => ?_, ?_, rfl, rfl, rfl⟩
  · have h4 : (c : Nat) < 4 := c.isLt
    have h8 : 4 + (c : Nat) < 8 := by omega
    have h12 : 8 + (c : Nat) < 12 := by omega
    have n4 : ¬ 4 + (c : Nat) < 4 := by omega
    have n8 : ¬ 8 + (c : Nat) < 8 := by omega
    have n8' : ¬ 8 + (c : Nat) < 4 := by omega
    rw [if_pos h4, if_neg n4, if_pos h8, if_neg n8', if_neg n8, if_pos h12, Nat.add_sub_cancel_left,
      Nat.add_sub_cancel_left]
    refine ⟨getLsbD_chanBits _ c, ?_, rfl⟩
    by_cases h : g.state = .complete <;> simp [h]
  · cases g.auto <;> simp

theorem segRef_of_ne {ws : List Word} (h : par ws 0 ≠ 0xFFFF) :
    segRef (par ws 0) = if 1999 < parNat ws 0 then .above else .index (parNat ws 0) := by
  refine (if_neg h).trans ?_
  by_cases hm : 1999 < parNat ws 0
  · rw [if_pos hm]
    exact if_neg (not_lt.2 hm)
  · rw [if_neg hm]
    exact if_pos (not_le.1 hm)

/-- The parameter names an index above 1999 (R184). -/
theorem segRef_above (ws : List Word) : segRef (par ws 0) = .above ↔ 1999 < parNat ws 0 ∧ par ws 0 ≠ 0xFFFF := by
  by_cases h : par ws 0 = 0xFFFF
  · simp [h, segRef]
  · rw [and_iff_left h, segRef_of_ne h]
    split <;> simp [*]

/-- The segment that a parameter other than an index above 1999 names (R184). -/
theorem resolveSeg_eq {s : State} {ws : List Word} (h : segRef (par ws 0) ≠ .above) :
    s.resolveSeg (segRef (par ws 0)) = if par ws 0 = 0xFFFF then s.acq.currentIdx else some (parNat ws 0) := by
  by_cases hc : par ws 0 = 0xFFFF
  · rw [if_pos hc, hc]
    rfl
  · have hm : ¬ 1999 < parNat ws 0 := fun hm => h ((segRef_above ws).2 ⟨hm, hc⟩)
    rw [if_neg hc, segRef_of_ne hc, if_neg hm]
    rfl

/-- An index above 1999 is refused (R104). -/
theorem exec_segmentInfo_above {s : State} {p : Port} {ws : List Word} (h : Offers s p kindSegmentInfo ws)
    (ha : segRef (par ws 0) = .above) : exec (.segmentInfo p) s = .next (s.respond p .badValue []) := by
  refine (onRequest_offers h _).trans (congrArg _ ?_)
  rw [ha]

/-- A CURRENT that names no segment is refused (R104). -/
theorem exec_segmentInfo_none {s : State} {p : Port} {ws : List Word} (h : Offers s p kindSegmentInfo ws)
    (ha : segRef (par ws 0) ≠ .above) (hn : s.resolveSeg (segRef (par ws 0)) = none) :
    exec (.segmentInfo p) s = .next (s.respond p .noSegment []) := by
  refine (onRequest_offers h _).trans (congrArg _ ?_)
  rw [hn]
  cases hr : segRef (par ws 0) with
  | above => exact absurd hr ha
  | current => rfl
  | index i => rfl

/-- Another reference is answered with the record of the segment it names (R104). -/
theorem exec_segmentInfo_some {s : State} {p : Port} {ws : List Word} {i : Nat} (h : Offers s p kindSegmentInfo ws)
    (ha : segRef (par ws 0) ≠ .above) (hi : s.resolveSeg (segRef (par ws 0)) = some i) :
    exec (.segmentInfo p) s = .next (s.respond p .ok (s.infoWords i)) := by
  refine (onRequest_offers h _).trans (congrArg _ ?_)
  rw [hi]
  cases hr : segRef (par ws 0) with
  | above => exact absurd hr ha
  | current => rfl
  | index i => rfl

/-- The result words by the segment's state, with the flags of the segment as it is shown (R104, R185). -/
theorem infoWords_eq (s : State) (i : Nat) :
    let g := s.acq.seg i
    let n := s.acq.snapOf g
    let flags := segFlagsWord g.shown (chanBits (s.acq.segChannels g))
    s.infoWords i = match g.state with
      | .free => [word i, 0] ++ List.replicate 16 0
      | .filling => [word i, 1] ++ words32 n.gen ++ wordsNat (lengthOf (n.val 33))
          ++ wordsNat (intervalOf (n.val 32)) ++ [flags] ++ wordsNat g.p ++ List.replicate 7 0
      | .complete => [word i, 2] ++ words32 n.gen ++ wordsNat (lengthOf (n.val 33))
          ++ wordsNat (intervalOf (n.val 32)) ++ [flags] ++ wordsNat g.p ++ words32 g.seq ++ words64 g.time
          ++ [word (256 * g.holdsA + g.holdsB)] := by
  intro g n flags
  have hi : s.infoWords i = _ := State.infoWords.eq_1 s i
  rw [State.seg_eq] at hi
  have hshown : (s.acq.seg i).state = g.state := rfl
  cases hs : g.state with
  | free =>
    rw [hshown, hs] at hi
    exact hi
  | filling =>
    have hg : g.shown = { g with ovr := 0, auto := false, pending := false, current := false } := if_neg (by simp [hs])
    simp only [flags, hg]
    rw [hshown, hs] at hi
    exact hi
  | complete =>
    have hg : g.shown = g := if_pos hs
    simp only [flags, hg]
    rw [hshown, hs] at hi
    exact hi

/-- Settles O26: each request answers its words and does nothing else. -/
theorem readingsAnswer : Obligations.ReadingsAnswer := by
  refine ⟨fun s p ws h => ⟨_, onRequest_offers h _, ?_⟩, fun s p ws h => ⟨_, onRequest_offers h _, ?_⟩,
    fun s p ws h => ?_⟩
  · exact descriptor_eq s.straps ▸ onlyAnswered_respond s p .ok _
  · refine (congrArg (OnlyAnswered s _ p .ok) ?_).mp (onlyAnswered_respond s p .ok s.trig.statusWords)
    unfold Trig.statusWords
    rw [trigStateWord_eq, autoWords_eq]
    cases s.trig.ext <;> rfl
  · by_cases ha : segRef (par ws 0) = .above
    · refine ⟨_, exec_segmentInfo_above h ha, ?_⟩
      rw [if_pos ((segRef_above ws).1 ha)]
      exact onlyAnswered_respond s p _ _
    · have hr := resolveSeg_eq (s := s) ha
      cases hi : s.resolveSeg (segRef (par ws 0)) with
      | none =>
        refine ⟨_, exec_segmentInfo_none h ha hi, ?_⟩
        rw [if_neg (mt (segRef_above ws).2 ha), ← hr, hi]
        exact onlyAnswered_respond s p _ _
      | some i =>
        refine ⟨_, exec_segmentInfo_some h ha hi, ?_⟩
        rw [if_neg (mt (segRef_above ws).2 ha), ← hr, hi]
        obtain ⟨hchan, hauto, hpending, hcurrent, htop⟩ := getLsbD_shownFlags s.acq (s.acq.seg i)
        refine ⟨_, hchan, hauto, hpending, hcurrent, htop, ?_⟩
        exact infoWords_eq s i ▸ onlyAnswered_respond s p .ok _

end Sys2Proof.Machine
end

section
/-!
SUPPORT. The PROBE_COMP wave (R79, R80; log 32): its register stands at the level of the base tick count after each
shared operation, one lemma an operation over the relation `ProbeKept`.
-/

namespace Sys2Proof.Machine

/-! ## The relation -/

/-- Where the wave's register stands at the level of the base tick count, it does so afterwards. -/
def ProbeKept (s t : State) : Prop := ProbeLaw s → ProbeLaw t

namespace ProbeKept

theorem refl (s : State) : ProbeKept s s := id

theorem trans {s t u : State} (h : ProbeKept s t) (k : ProbeKept t u) : ProbeKept s u := k ∘ h

/-- What is done beside the clock and the wave's register. -/
theorem beside {s t : State} (h : (t.baseTick, t.trig.probe) = (s.baseTick, s.trig.probe)) : ProbeKept s t := by
  obtain ⟨hb, hp⟩ := Prod.mk.inj h
  intro hs
  unfold ProbeLaw
  rw [hb, hp]
  exact hs

/-- An operation after what is beside the clock and the wave's register. -/
theorem after {s t u : State} (k : ProbeKept t u)
    (h : (t.baseTick, t.trig.probe) = (s.baseTick, s.trig.probe) := by rfl) : ProbeKept s u := (beside h).trans k

theorem ite {s t u : State} {c : Prop} [Decidable c] (h : ProbeKept s t) (k : ProbeKept s u) :
    ProbeKept s (if c then t else u) := by split <;> assumption

theorem foldl {α : Type} {f : State → α → State} (h : ∀ s a, ProbeKept s (f s a)) (l : List α) (s : State) :
    ProbeKept s (l.foldl f s) := by
  induction l generalizing s with
  | nil => exact refl s
  | cons a l ih => exact (h s a).trans (ih _)

/-! ## Segments and renderer -/

theorem setSeg (s : State) (i : Nat) (g : Seg) : ProbeKept s (s.setSeg i g) := beside rfl

theorem freeSeg (s : State) (i : Nat) : ProbeKept s (s.freeSeg i) := beside rfl

theorem freeIfUnkept (s : State) (i : Nat) : ProbeKept s (s.freeIfUnkept i) := ite (freeSeg s i) (refl s)

theorem freeUnkept (s : State) (is : List Nat) : ProbeKept s (s.freeUnkept is) := foldl freeIfUnkept is s

theorem freeUnheld (s : State) (is : List Nat) : ProbeKept s (s.freeUnheld is) :=
  foldl (fun s i => ite (freeSeg s i) (refl s)) is s

theorem abandonFilling (s : State) : ProbeKept s s.abandonFilling := by
  unfold State.abandonFilling
  split
  · exact beside rfl
  · exact beside rfl

theorem makeCurrent (s : State) (i : Nat) : ProbeKept s (s.makeCurrent i) := by
  unfold State.makeCurrent
  split
  · exact ite (refl s) (((setSeg s _ _).trans (setSeg _ _ _)).trans (freeIfUnkept _ _))
  · exact setSeg s _ _

theorem clearPending (s : State) (i : Nat) : ProbeKept s (s.clearPending i) :=
  (setSeg s _ _).trans (freeIfUnkept _ _)

theorem makeRoom (s : State) : ProbeKept s s.makeRoom := by
  refine ite (refl s) ?_
  split
  · exact (clearPending _ _).after
  · exact refl s

theorem handOff (s : State) (i : Nat) : ProbeKept s (s.handOff i) :=
  ite (refl s) ((makeRoom s).trans (beside (t := s.makeRoom.enqueue i) rfl))

theorem abandonRender (s : State) : ProbeKept s s.abandonRender := by
  unfold State.abandonRender
  split
  · exact (clearPending _ _).after
  · exact refl s

theorem clearRasters (s : State) : ProbeKept s s.clearRasters := (abandonRender _).after

theorem purge (s : State) : ProbeKept s s.purge :=
  ((foldl clearPending _ _).trans (abandonRender _)).after

theorem takeRender (s : State) (n : Nat) : ProbeKept s (s.takeRender n) := by
  induction n generalizing s with
  | zero => exact refl s
  | succ n ih =>
    unfold State.takeRender
    split
    · exact refl s
    · exact ite ((clearPending _ _).trans (ih _)).after (beside rfl)

theorem resume (s : State) : ProbeKept s s.resume := by
  unfold State.resume
  split
  · exact refl s
  · exact (beside (t := s.consumeDecay) rfl).trans (takeRender _ _)

theorem columnStep (s : State) (r : Render) (m : ChanMap) : ProbeKept s (s.columnStep r m) :=
  ite (beside rfl) ((abandonRender _).trans (resume _)).after

/-! ## Front end -/

theorem feArbitrate (s : State) : ProbeKept s s.feArbitrate := by
  unfold State.feArbitrate
  split
  · exact beside rfl
  · exact refl s

theorem flagFault (s : State) (n : Nat) : ProbeKept s (s.flagFault n) := by
  unfold State.flagFault
  split
  · exact ite (setSeg s _ _) (refl s)
  · exact refl s

theorem post (s : State) (n : Notice) : ProbeKept s (s.post n) := beside rfl

theorem feMismatch (s : State) (n : Nat) : ProbeKept s (s.feMismatch n) :=
  ite (beside rfl) ((flagFault _ n).trans (post _ _)).after

/-! ## Triggers, filling and arming -/

theorem takeTrigger (s : State) (auto : Bool) : ProbeKept s (s.takeTrigger auto) := by
  unfold State.takeTrigger
  dsimp only
  split
  · exact beside rfl
  · exact beside rfl

/-- A choice between two trigger units that both have the wave of a third. -/
theorem probe_ite {c : Prop} [Decidable c] {t u v : Trig} (ht : t.probe = v.probe) (hu : u.probe = v.probe) :
    (if c then t else u).probe = v.probe := by split <;> assumption

theorem passToReady (s : State) : ProbeKept s s.passToReady :=
  ite (takeTrigger _ _).after (beside (Prod.ext rfl (probe_ite rfl rfl)))

theorem enterFilling (s : State) (i e : Nat) (snaps : List Snap) : ProbeKept s (s.enterFilling i e snaps) :=
  ite (passToReady _).after (beside rfl)

theorem reuseCurrent (s : State) : ProbeKept s s.reuseCurrent := by
  refine ite (refl s) ?_
  split
  · exact ite (freeSeg s _) (refl s)
  · exact refl s

theorem slotChoice (s : State) : ProbeKept s s.slotChoice := by
  refine (reuseCurrent s).trans ?_
  unfold State.slotChoice
  dsimp only
  split
  · exact enterFilling _ _ _ _
  · exact beside rfl

theorem arm (s : State) : ProbeKept s s.arm := ite (slotChoice s) (beside rfl)

theorem retryWait (s : State) : ProbeKept s s.retryWait := ite (arm s) (refl s)

theorem tellSettled (s : State) : ProbeKept s s.tellSettled := ite (arm s) (refl s)

theorem finishAct (s : State) : ProbeKept s s.finishAct := (resume s).trans (retryWait _)

theorem feFinish (s : State) : ProbeKept s s.feFinish := (feArbitrate s).trans (tellSettled _)

/-! ## Run modes and completion -/

theorem enterStop (s : State) : ProbeKept s s.enterStop := (abandonFilling s).trans (beside rfl)

theorem emptySequence (s : State) : ProbeKept s s.emptySequence := (freeUnkept _ _).after

theorem startSequence (s : State) : ProbeKept s s.startSequence := (freeUnheld s _).trans (beside rfl)

theorem setMode (s : State) (m : RunMode) : ProbeKept s (s.setMode m) := beside rfl

theorem clearChanged (s : State) : ProbeKept s s.clearChanged := beside rfl

theorem toActive (s : State) (m : RunMode) : ProbeKept s (s.toActive m) :=
  ite (((((clearChanged s).trans (setMode _ m)).trans (emptySequence _)).trans (resume _)).trans (arm _))
    (((setMode s m).trans (emptySequence _)).trans (finishAct _))

theorem toSequence (s : State) : ProbeKept s s.toSequence :=
  (((((ite (c := s.acq.mode = .stop) (refl s) (enterStop s)).trans (clearChanged _)).trans (setMode _ .sequence)).trans
    (startSequence _)).trans (resume _)).trans (arm _)

theorem runControl (s : State) (m : RunMode) : ProbeKept s (s.runControl m) := by
  refine ite (refl s) ?_
  cases m with
  | stop => exact enterStop s
  | run => exact toActive s _
  | single => exact toActive s _
  | sequence => exact toSequence s

theorem force (s : State) : ProbeKept s s.force := by
  unfold State.force
  split
  · exact beside rfl
  · exact takeTrigger s _
  · exact refl s

theorem completeSeg (s : State) (i : Nat) : ProbeKept s (s.completeSeg i) := (makeCurrent _ i).after

theorem endRun (s : State) : ProbeKept s s.endRun := beside rfl

theorem continueSequence (s : State) (i : Nat) : ProbeKept s (s.continueSequence i) :=
  (ite ((((handOff _ i).trans (resume _)).trans (post _ _)).trans (endRun _)) (arm _)).after

theorem handCompleted (s : State) (i : Nat) : ProbeKept s (s.handCompleted i) :=
  ite (refl s) ((handOff s i).trans (resume _))

theorem announce (s : State) (i : Nat) : ProbeKept s (s.announce i) :=
  ((completeSeg s i).trans (handCompleted _ i)).trans (beside rfl)

theorem complete (s : State) (i : Nat) : ProbeKept s (s.complete i) := by
  refine (announce s i).trans ?_
  unfold State.complete
  split
  · exact (endRun _).trans (finishAct _)
  · exact (continueSequence _ i).trans (finishAct _)
  · exact (arm _).trans (finishAct _)

/-! ## Samples -/

theorem writeSample (s : State) (i pos : Nat) (cs : List Byte) : ProbeKept s (s.writeSample i pos cs) := beside rfl

theorem postSample (s : State) (i : Nat) (cs : List Byte) : ProbeKept s (s.postSample i cs) := by
  refine trans (ite (c := s.acq.postCount = 0) (setSeg s i { s.seg i with time := s.baseTick }) (refl s)) ?_
  exact ite (complete _ i) (ite (complete _ i).after (beside rfl))

theorem overwriteOldest (s : State) (i : Nat) (cs : List Byte) : ProbeKept s (s.overwriteOldest i cs) :=
  ite (refl s) ((writeSample s _ _ _).trans (setSeg _ _ _))

theorem pretrigSample (s : State) (i : Nat) (cs : List Byte) : ProbeKept s (s.pretrigSample i cs) :=
  ite (passToReady _).after (beside rfl)

theorem tracked (s : State) (i : Nat) (cs : List Byte) (ext : Bool) : ProbeKept s (s.tracked i cs ext) :=
  beside (Prod.ext rfl (probe_ite rfl (probe_track _ _ _ _)))

theorem takeSample (s : State) (i : Nat) (cs : List Byte) (ext : Bool) : ProbeKept s (s.takeSample i cs ext) := by
  unfold State.takeSample
  split
  · exact (tracked s i cs ext).trans (pretrigSample _ _ _)
  · exact ite (((tracked s i cs ext).trans (takeTrigger _ _)).trans (postSample _ _ _))
      ((tracked s i cs ext).trans (overwriteOldest _ _ _))
  · exact (tracked s i cs ext).trans (postSample _ _ _)
  · exact refl s

theorem keptSample (s : State) (cs : List Byte) (ext : Bool) : ProbeKept s (s.keptSample cs ext) := by
  unfold State.keptSample
  split
  · exact takeSample s _ cs ext
  · exact refl s

/-! ## A change -/

theorem restart (s : State) : ProbeKept s s.restart := by
  refine (abandonFilling s).trans ?_
  unfold State.restart
  dsimp only
  split
  · exact ((freeUnheld _ _).trans ((purge _).trans (clearRasters _)).after).trans (beside rfl)
  · exact ((purge _).trans (clearRasters _)).trans (beside rfl)

theorem freeAboveK (s : State) (ids : List Nat) : ProbeKept s (s.freeAboveK ids) := ite (freeUnheld s _) (refl s)

theorem requestUpdates (s : State) (ids : List Nat) : ProbeKept s (s.requestUpdates ids) :=
  ite (refl s) (feArbitrate _).after

theorem disposeAcq (s : State) (ids : List Nat) : ProbeKept s (s.disposeAcq ids) :=
  ite (ite (restart s) (beside rfl)) (refl s)

theorem requeueCurrent (s : State) : ProbeKept s s.requeueCurrent := by
  unfold State.requeueCurrent
  split
  · exact handOff s _
  · exact refl s

theorem disposeView (s : State) (ids : List Nat) : ProbeKept s (s.disposeView ids) :=
  ite (ite (clearRasters s) ((clearRasters s).trans (requeueCurrent _))) (refl s)

theorem disposeTrigMode (s : State) (ids : List Nat) : ProbeKept s (s.disposeTrigMode ids) :=
  ite (beside (Prod.ext rfl (probe_ite rfl rfl))) (refl s)

/-- A change of AUX_SOURCE to PROBE_COMP sets the register to the level of the count; another leaves it (R17, R80). -/
theorem disposeAux (s : State) (ids : List Nat) : ProbeKept s (s.disposeAux ids) := by
  refine ite (fun hs => ?_) (refl s)
  show (if s.fieldVal fidAuxSource = 1 then probeLevel s.baseTick else s.trig.probe) = probeLevel s.baseTick
  split
  · rfl
  · exact hs

theorem disposeEnd (s : State) (ids : List Nat) : ProbeKept s (s.disposeEnd ids) :=
  ite ((resume s).trans (arm _)) (ite (finishAct s) (refl s))

theorem dispose (s : State) (ids : List Nat) : ProbeKept s (s.dispose ids) :=
  ((((((freeAboveK s ids).trans (requestUpdates _ _)).trans (disposeAcq _ _)).trans (disposeView _ _)).trans
    (disposeTrigMode _ _)).trans (disposeAux _ _)).trans (disposeEnd _ _)

theorem recordChange (s : State) (src : Source) (f : Nat → Int) : ProbeKept s (s.recordChange src f) :=
  (foldl post _ _).after

theorem applyValues (s : State) (src : Source) (f : Nat → Int) : ProbeKept s (s.applyValues src f) :=
  ite (refl s) ((recordChange s src f).trans (dispose _ _))

theorem change {s t : State} {src : Source} {pairs : List (Nat × Int)} {code : Code}
    (h : s.change src pairs = .ok (t, code)) : ProbeKept s t := by
  unfold State.change at h
  split at h
  · cases h
  · next f _ _ =>
    obtain ⟨rfl, -⟩ := Prod.mk.inj (Except.ok.inj h)
    exact applyValues s src f

/-! ## Ports and link -/

theorem dropHold (s : State) (p : Port) (i : Nat) (implicit : Bool) : ProbeKept s (s.dropHold p i implicit) :=
  (freeIfUnkept _ _).after

theorem giveBack (s : State) (p : Port) : ProbeKept s (s.giveBack p) := by
  unfold State.giveBack
  split
  · exact (dropHold s p _ true).trans (finishAct _)
  · exact beside rfl
  · exact refl s

theorem readOut (s : State) (p : Port) (d : DataOut) : ProbeKept s (s.readOut p d) :=
  ite (ite (beside rfl) (beside rfl)) (ite (beside rfl) ((giveBack s p).trans (beside rfl)))

theorem abort (s : State) (p : Port) : ProbeKept s (s.abort p) := by
  unfold State.abort
  split
  · exact refl s
  · exact refl s
  · exact (giveBack s p).trans (beside rfl)

theorem servePort (s : State) (p : Port) : ProbeKept s (s.servePort p) := by
  unfold State.servePort
  split
  · exact beside rfl
  · exact refl s

theorem releaseAll (s : State) (p : Port) : ProbeKept s (s.releaseAll p) :=
  foldl (fun s (h : HoldEntry) => dropHold s p h.seg h.implicit) _ s

theorem giveBackScreen (s : State) (p : Port) : ProbeKept s (s.giveBackScreen p) := by
  unfold State.giveBackScreen
  split
  · exact beside rfl
  · exact refl s

theorem applyMap {α : Type} (s : State) (p : Port) (first : Nat) (es : List (Option α)) {f : List α → State}
    (h : ∀ l, ProbeKept s (f l)) : ProbeKept s (s.applyMap p first es f) :=
  ite ((h _).trans (beside rfl)) (beside rfl)

theorem completeData (s : State) (p : Port) (r : Staged) (table : List Word) : ProbeKept s (s.completeData p r table) :=
  ite (applyMap s p _ _ fun _ => beside rfl) <| ite (applyMap s p _ _ fun _ => beside rfl) <|
    ite (applyMap s p _ _ fun _ => beside rfl) (beside rfl)

theorem hold (s : State) (p : Port) (i : Nat) : ProbeKept s (s.hold p i) :=
  ite (beside rfl) (ite (beside rfl) (beside rfl))

theorem releaseHold (s : State) (p : Port) (i : Nat) : ProbeKept s (s.releaseHold p i) :=
  ite (beside rfl) (((dropHold s p i _).trans (finishAct _)).trans (beside rfl))

theorem readWave (s : State) (p : Port) (i ch start count : Nat) : ProbeKept s (s.readWave p i ch start count) :=
  ite (beside rfl) (ite (beside rfl) (beside rfl))

theorem showSeg (s : State) (i : Nat) : ProbeKept s (s.showSeg i) :=
  (((makeCurrent s i).trans (clearRasters _)).trans (handOff _ i)).trans (finishAct _)

theorem clearDisplay (s : State) : ProbeKept s s.clearDisplay := (clearRasters s).trans (finishAct _)

/-! ## Panel and store -/

theorem panelChange (s : State) (src : Source) (pairs : List (Nat × Int)) : ProbeKept s (s.panelChange src pairs) := by
  refine ite (beside rfl) ?_
  split
  · exact beside rfl
  · next h => exact change h

theorem panelRun (s : State) {f : State → State} (h : ProbeKept s (f s)) : ProbeKept s (s.panelRun f) :=
  ite (beside rfl) h

theorem panelLocal (s : State) : ProbeKept s s.panelLocal := by
  unfold State.panelLocal
  split
  · exact refl s
  · exact ite (beside rfl) (beside rfl)

theorem keyAction (s : State) (k : Nat) : ∀ a, ProbeKept s (s.keyAction k a)
  | .none => refl s
  | .report => post s _
  | .runStop => panelRun s (f := fun s => s.runControl _) (runControl s _)
  | .single => panelRun s (f := fun s => s.runControl _) (runControl s _)
  | .sequence => panelRun s (f := fun s => s.runControl _) (runControl s _)
  | .force => panelRun s (force s)
  | .clear => panelRun s (clearDisplay s)
  | .dflt => panelChange s _ _
  | .recall _ => ite (beside rfl) (beside rfl)
  | .save _ => ite (beside rfl) (beside rfl)
  | .channel _ => ite (beside rfl) (panelChange s _ _)
  | .setField _ _ => panelChange s _ _
  | .localKey => panelLocal s

theorem knobAction (s : State) (e : Nat) (cw : Bool) (k : KnobEntry) (r : EncRec) :
    ProbeKept s (s.knobAction e cw k r) := by
  unfold State.knobAction
  split
  · exact post s _
  · exact panelChange s _ _
  · exact panelChange s _ _

theorem takePress (s : State) (k : Nat) : ProbeKept s (s.takePress k) := ite (keyAction _ _ _).after (beside rfl)

theorem takeRelease (s : State) (k : Nat) : ProbeKept s (s.takeRelease k) := ite (beside rfl) (beside rfl)

theorem takeDetent (s : State) (e : Nat) (cw : Bool) : ProbeKept s (s.takeDetent e cw) :=
  ite (knobAction _ _ _ _ _).after (beside rfl)

theorem takeEvent (s : State) (e : PanelEvent) : ProbeKept s (s.takeEvent e) := by
  cases e with
  | press k => exact takePress s k
  | release k => exact takeRelease s k
  | detent e cw => exact takeDetent s e cw

theorem takeDue (s : State) : ProbeKept s s.takeDue := foldl takeEvent _ s

theorem endOp (s : State) (op : StoreOp) (code : Code) : ProbeKept s (s.endOp op code) := ite (beside rfl) (beside rfl)

theorem endRecall (s : State) (op : StoreOp) (ws : List Word) : ProbeKept s (s.endRecall op ws) :=
  ite (endOp _ op _).after (ite (endOp s op _) ((applyValues s .recall _).trans (endOp _ op _)))

theorem tellDecay (s : State) : ProbeKept s s.tellDecay := by
  unfold State.tellDecay
  dsimp only
  split
  · exact beside rfl
  · exact beside rfl

end ProbeKept

/-! ## Every command -/

/-- A command's answer keeps the wave at its level. -/
def AnswersProbe (o : Host.Outcome State Fault Refusal) (s : State) : Prop := ∃ t, o = .next t ∧ ProbeKept s t

theorem AnswersProbe.next {s t : State} (h : ProbeKept s t) : AnswersProbe (.next t) s := ⟨t, rfl, h⟩

theorem AnswersProbe.onRequest {s : State} {p : Port} {kind : BitVec 8} {f : List Word → State}
    (h : ∀ ws, ProbeKept s (f ws)) : AnswersProbe (onRequest p kind s f) s := by
  rcases onRequest_next p kind s f with e | ⟨ws, -, e⟩
  · exact ⟨s, e, .refl s⟩
  · exact ⟨f ws, e, h ws⟩

namespace ProbeKept

theorem dataWord (s : State) (p : Port) (w : Word) : AnswersProbe (execDataWord p w s) s := by
  refine .next (ite (refl s) ?_)
  split
  · exact beside rfl
  · exact beside rfl
  · exact refl s

theorem checkWord (s : State) (p : Port) (w : Word) : AnswersProbe (execCheckWord p w s) s := by
  refine .next (ite (refl s) ?_)
  split
  · exact beside rfl
  · exact beside rfl
  · exact refl s

theorem wordRead (s : State) (p : Port) : AnswersProbe (execWordRead p s) s := by
  refine .next (ite (beside rfl) (ite (beside rfl) ?_))
  split
  · exact beside rfl
  · exact readOut s p _
  · exact beside rfl

theorem portReset (s : State) (p : Port) : AnswersProbe (execPortReset p s) s := by
  refine .next (trans ?_ (finishAct _))
  exact ((giveBackScreen s p).trans (releaseAll _ p)).trans
    (ite (c := s.setup.holder = some p) (beside rfl) (beside rfl))

theorem setupWrite (s : State) (p : Port) : AnswersProbe (execSetupWrite p s) s := by
  refine .onRequest fun ws => ite (beside rfl) (ite (beside rfl) (ite (beside rfl) ?_))
  split
  · exact beside rfl
  · next h => exact (change h).trans (beside rfl)

theorem setupExchange (s : State) (p : Port) : AnswersProbe (execSetupExchange p s) s := by
  refine .onRequest fun ws => ite (beside rfl) ?_
  split
  · exact beside rfl
  · next h => exact (change h).trans (beside rfl)

theorem defaultSetup (s : State) (p : Port) : AnswersProbe (execDefaultSetup p s) s := by
  refine .onRequest fun ws => ite (beside rfl) ?_
  split
  · exact beside rfl
  · next h => exact (change h).trans (beside rfl)

theorem grantLock (s : State) (p : Port) (d : Bool) : ProbeKept s (s.grantLock p d) := ite (beside rfl) (beside rfl)

theorem unlock (s : State) (p : Port) : AnswersProbe (execUnlock p s) s :=
  .onRequest fun _ => ite (beside rfl) ((ite (refl s) (beside (t := s.endLock) rfl)).trans (beside rfl))

theorem dataInCompletion (s : State) (p : Port) : AnswersProbe (execDataInCompletion p s) s := by
  refine .next ?_
  split
  · refine ite ?_ (refl s)
    split
    · exact beside rfl
    · exact completeData s p _ _
  · exact refl s

theorem runControlRequest (s : State) (p : Port) : AnswersProbe (execRunControl p s) s := by
  refine .onRequest fun ws => ite (refl s) ?_
  split
  · exact beside rfl
  · exact ite (beside rfl) ((runControl s _).trans (beside rfl))

theorem holdRequest (s : State) (p : Port) : AnswersProbe (execHold p s) s := by
  refine .onRequest fun ws => ?_
  split
  · exact beside rfl
  · exact beside rfl
  · exact hold s p _

theorem releaseRequest (s : State) (p : Port) : AnswersProbe (execRelease p s) s := by
  refine .onRequest fun ws => ?_
  split
  · exact beside rfl
  · exact beside rfl
  · exact releaseHold s p _

theorem readWaveform (s : State) (p : Port) : AnswersProbe (execReadWaveform p s) s := by
  refine .onRequest fun ws => ite (beside rfl) ?_
  split
  · exact beside rfl
  · exact ite (beside rfl) (readWave s p _ _ _ _)

theorem segmentInfo (s : State) (p : Port) : AnswersProbe (execSegmentInfo p s) s := by
  refine .onRequest fun ws => ?_
  split
  · exact beside rfl
  · exact beside rfl
  · exact beside rfl

theorem showSegment (s : State) (p : Port) : AnswersProbe (execShowSegment p s) s := by
  refine .onRequest fun ws => ?_
  split
  · exact ite (beside rfl) (ite (beside rfl) (ite (beside rfl) ((showSeg s _).trans (beside rfl))))
  · exact beside rfl

theorem recallSetup (s : State) (p : Port) : AnswersProbe (execRecallSetup p s) s := by
  refine .onRequest fun ws => ite (beside rfl) (ite (beside rfl) (ite (beside rfl) ?_))
  split
  · exact beside rfl
  · exact beside rfl
  · exact beside rfl

theorem echo (s : State) (w : Word) : AnswersProbe (execEcho w s) s := by
  refine .next ?_
  split
  · exact ite (ite (feFinish _).after ((feMismatch s _).trans (feFinish _))) (refl s)
  · exact refl s

theorem echoTimeout (s : State) : AnswersProbe (execEchoTimeout s) s := by
  refine .next ?_
  split
  · exact (feMismatch s _).trans (feFinish _)
  · exact refl s

theorem autoTimerExpiry (s : State) : AnswersProbe (execAutoTimerExpiry s) s := by
  refine .next ?_
  split
  · exact ite (takeTrigger s true) (refl s)
  · exact refl s

theorem renderColumnStep (s : State) : AnswersProbe (execRenderColumnStep s) s := by
  refine .next ?_
  split
  · split
    · exact ite ((columnStep s _ _).trans (retryWait _)) (refl s)
    · exact refl s
  · exact refl s

theorem frameExpiry (s : State) : AnswersProbe (execFrameExpiry s) s :=
  .next ((tellDecay _).after.trans (beside rfl))

theorem buildEnd (s : State) : AnswersProbe (execBuildEnd s) s := by
  refine .next ?_
  split
  · exact ite (beside rfl) (refl s)
  · exact refl s

theorem firstWordMarkEnd (s : State) : AnswersProbe (execFirstWordMarkEnd s) s := by
  refine .next ?_
  split
  · exact beside rfl
  · exact refl s

theorem eraseEnd (s : State) (u : FlashUpset) : AnswersProbe (execEraseEnd u s) s := by
  refine .next ?_
  split
  · exact beside rfl
  · exact refl s

theorem programEnd (s : State) (u : FlashUpset) : AnswersProbe (execProgramEnd u s) s := by
  refine .next ?_
  split
  · exact beside rfl
  · exact refl s

theorem verifyEnd (s : State) (u : FlashUpset) : AnswersProbe (execVerifyEnd u s) s := by
  refine .next ?_
  split
  · exact (endOp _ _ _).after
  · exact refl s

theorem recallReadEnd (s : State) (u : FlashUpset) : AnswersProbe (execRecallReadEnd u s) s := by
  refine .next ?_
  split
  · exact endRecall s _ _
  · exact refl s

theorem sampleMemoryAccess (s : State) : AnswersProbe (execSampleMemoryAccess s) s := by
  refine .next ?_
  split
  · exact beside rfl
  · exact (servePort s .a).trans (beside rfl)
  · exact (servePort s .b).trans (beside rfl)
  · exact refl s

theorem frameBufferAccess (s : State) : AnswersProbe (execFrameBufferAccess s) s := by
  refine .next ?_
  split
  · exact beside rfl
  · exact (servePort s .a).trans (beside rfl)
  · exact (servePort s .b).trans (beside rfl)
  · exact refl s

end ProbeKept

open ProbeKept in
/-- Every command keeps the wave at its level; a power-on reset and PROBE_COMP_EDGE set it there (R79, R163). -/
theorem exec_probe (c : Instr) (s : State) : AnswersProbe (exec c s) s :=
  match c with
  | .powerOnReset st w u => .next fun _ =>
    (feArbitrate (State.resetWith st (cutFlash s.store w u))) (rfl : _ = probeLevel 0)
  | .portReset p => portReset s p
  | .abort p => .next (ite (refl s) (abort s p))
  | .startWord _ _ => .next (ite (refl s) (ite (ite (beside rfl) (beside rfl)) (beside rfl)))
  | .frameWord _ _ => .next (ite (refl s) (ite (beside rfl) (ite (ite (beside rfl)
      (ite (beside rfl) (ite (beside rfl) (beside rfl)))) (refl s))))
  | .dataWord p w => dataWord s p w
  | .checkWord p w => checkWord s p w
  | .wordRead p => wordRead s p
  | .identify _ => .onRequest fun _ => beside rfl
  | .getNotices _ => .onRequest fun _ => ite (beside rfl) (beside rfl)
  | .setAttention _ => .onRequest fun _ => ite (beside rfl) (beside rfl)
  | .setupRead _ => .onRequest fun _ => ite (beside rfl) (beside rfl)
  | .setupWrite p => setupWrite s p
  | .setupExchange p => setupExchange s p
  | .defaultSetup p => defaultSetup s p
  | .lock p => .onRequest fun _ => ite (beside rfl) ((grantLock s p _).trans (beside rfl))
  | .unlock p => unlock s p
  | .writeKeymap _ => .onRequest fun _ => ite (beside rfl) (beside rfl)
  | .writeKnobmap _ => .onRequest fun _ => ite (beside rfl) (beside rfl)
  | .writeLedmap _ => .onRequest fun _ => ite (beside rfl) (beside rfl)
  | .dataInCompletion p => dataInCompletion s p
  | .beep _ => .onRequest fun _ => beside rfl
  | .triggerStatus _ => .onRequest fun _ => beside rfl
  | .runControl p => runControlRequest s p
  | .runControlForce _ => .onRequest fun _ => ite (ite (beside rfl) ((force s).trans (beside rfl))) (refl s)
  | .hold p => holdRequest s p
  | .release p => releaseRequest s p
  | .readWaveform p => readWaveform s p
  | .segmentInfo p => segmentInfo s p
  | .showSegment p => showSegment s p
  | .clearDisplay _ => .onRequest fun _ => ite (beside rfl) ((clearDisplay s).trans (beside rfl))
  | .writeOverlay _ => .onRequest fun _ => ite (beside rfl) (beside rfl)
  | .fillOverlay _ => .onRequest fun _ => ite (beside rfl) (beside rfl)
  | .writePalette _ => .onRequest fun _ => ite (beside rfl) (beside rfl)
  | .readScreen _ => .onRequest fun _ => beside rfl
  | .saveSetup _ => .onRequest fun _ => ite (beside rfl) (ite (beside rfl) (beside rfl))
  | .recallSetup p => recallSetup s p
  | .eraseSetup _ => .onRequest fun _ => ite (beside rfl) (ite (beside rfl) (beside rfl))
  | .setStartup _ => .onRequest fun _ => ite (beside rfl) (ite (beside rfl) (beside rfl))
  | .listSetups _ => .onRequest fun _ => ite (beside rfl) (beside rfl)
  | .setClock _ => .onRequest fun _ => ite (beside rfl) (beside rfl)
  | .scanTick _ _ _ => .next ((takeDue s).trans (beside rfl))
  | .keyPress k => .next (takePress s k)
  | .keyRelease k => .next (takeRelease s k)
  | .detent e cw => .next (takeDetent s e cw)
  | .toneExpiry => .next (beside rfl)
  | .ledPwmPeriod _ => .next (beside rfl)
  | .echo w => echo s w
  | .echoTimeout => echoTimeout s
  | .settleExpiry _ => .next (ite (tellSettled _).after (refl s))
  | .keptSample _ _ _ _ ext => .next (ProbeKept.keptSample s _ ext)
  | .holdoffExpiry => .next (beside rfl)
  | .autoTimerExpiry => autoTimerExpiry s
  | .trigOutPulseEnd => .next (beside rfl)
  | .renderColumnStep => renderColumnStep s
  | .frameExpiry => frameExpiry s
  | .buildEnd => buildEnd s
  | .scanSectorReadEnd _ => .next (ite (beside rfl) (refl s))
  | .firstWordMarkEnd => firstWordMarkEnd s
  | .eraseEnd u => eraseEnd s u
  | .programEnd u => programEnd s u
  | .verifyEnd u => verifyEnd s u
  | .recallReadEnd u => recallReadEnd s u
  | .clockRise => .next (beside rfl)
  | .probeCompEdge => .next fun _ => rfl
  | .prstRelease _ => .next (beside rfl)
  | .sampleMemoryAccess => sampleMemoryAccess s
  | .frameBufferAccess => frameBufferAccess s

/-- On an empty queue an event of the panel is taken, or a base tick sets the register anew (R79; log 2). -/
theorem idle_probe (s : State) : AnswersProbe (idle s) s := by
  unfold idle
  split
  · exact .next (ProbeKept.takeEvent s _)
  · exact .next fun _ => rfl

theorem step_probe (s : State) : AnswersProbe (step s) s := by
  unfold step
  split
  · next c rest _ =>
    obtain ⟨t, ht, hp⟩ := exec_probe c { s with pending := rest }
    exact ⟨t, ht, hp.after⟩
  · exact idle_probe s

/-! ## The lines -/

theorem attn_iff (ps : PortState) : ps.attn = true ↔ ps.prst = false
    ∧ ((ps.attnMask.getLsbD 0 = true ∧ ps.queue ≠ [])
      ∨ (ps.attnMask.getLsbD 1 = true ∧ ps.link = .responding)) := by
  simp [PortState.attn]

theorem auxLevel_trigOut {s : State} (h : s.fieldVal fidAuxSource = 0) : s.auxLevel = s.trig.pulse.isSome := if_pos h

theorem auxLevel_probeComp {s : State} (h : s.fieldVal fidAuxSource = 1) : s.auxLevel = s.trig.probe :=
  (if_neg (by rw [h]; decide)).trans (if_pos h)

theorem auxLevel_acquisition {s : State} (h : s.fieldVal fidAuxSource = 2) : s.auxLevel = s.acq.state.fills :=
  (if_neg (by rw [h]; decide)).trans (if_neg (by rw [h]; decide))

/-- Settles O23: the lines by their definitions, and the wave by `step_probe`. -/
theorem outputLines : Obligations.OutputLines := by
  refine ⟨attn_iff, fun s => ⟨fun h => ?_, fun h hp => ?_, fun h => ?_⟩, fun s t hs ht => ?_⟩
  · rw [auxLevel_trigOut h, Option.isSome_iff_ne_none]
  · rw [auxLevel_probeComp h, hp, decide_eq_true_iff]
  · rw [auxLevel_acquisition h, fills_iff]
  · obtain ⟨u, hu, hk⟩ := step_probe s
    exact Host.Outcome.next.inj (hu.symm.trans ht) ▸ hk hs

end Sys2Proof.Machine
end

section
/-!
SUPPORT. What the shared operations of the segment store do to its records: the memories' form, the current segment, the
reference counts of the snapshot table, and the counts of holds, one lemma an operation over the relation `RecordsKept`.
-/

namespace Sys2Proof.Machine

/-! ## Counting cells -/

/-- The number of listed cells with a property that the default lacks, after one value is written. -/
theorem Cells.countP_put {α : Type} [DecidableEq α] {d : α} {m : Cells α} (h : Cells.wf d m = true) {q : α → Bool}
    (hd : q d = false) (a : Nat) (v : α) :
    (Cells.put d m a v).countP (fun c => q c.2) + (q (Cells.get d m a)).toNat
      = m.countP (fun c => q c.2) + (q v).toNat := by
  have toNat_eq (b : Bool) : b.toNat = if b = true then 1 else 0 := by cases b <;> rfl
  induction m with
  | nil =>
    simp only [Cells.put, Cells.get, hd]
    split
    · next hv => simp [hv, hd]
    · simp [toNat_eq]
  | cons e m ih =>
    obtain ⟨k, w⟩ := e
    simp only [Cells.wf, Bool.and_eq_true, decide_eq_true_eq, List.all_eq_true] at h
    obtain ⟨⟨-, hk⟩, hm⟩ := h
    simp only [Cells.put, Cells.get]
    split
    · next hlt =>
      have hout : Cells.get d m a = d := Cells.get_of_lt fun c hc => hlt.trans (hk c hc)
      rw [if_neg (Nat.ne_of_gt hlt), hout, hd]
      split
      · next hv => simp [hv, hd]
      · simp [List.countP_cons, toNat_eq]
    · split
      · next hak =>
        rw [if_pos hak.symm]
        split
        · next hv => simp [List.countP_cons, hv, hd, toNat_eq]
        · simp only [List.countP_cons, toNat_eq]; omega
      · next hak =>
        rw [if_neg (Ne.symm hak)]
        have := ih hm
        simp only [List.countP_cons]
        omega

/-- The search for the current segment finds one that is current. -/
theorem Acq.current_of_currentIdx {a : Acq} (h : Cells.wf Seg.blank a.segs = true) {i : Nat}
    (hi : a.currentIdx = some i) : (a.seg i).current = true :=
  Cells.get_of_find? (q := fun g : Seg => g.current) h hi

/-- Where the search finds none, no segment is current. -/
theorem Acq.not_current_of_currentIdx {a : Acq} (hi : a.currentIdx = none) (i : Nat) : (a.seg i).current = false :=
  Cells.get_of_find?_none (d := Seg.blank) (q := fun g : Seg => g.current) rfl hi i

/-! ## One record after an operation -/

theorem seg_put {a b : Acq} (hw : Cells.wf Seg.blank a.segs = true) {i : Nat} {g : Seg}
    (h : b.segs = Cells.put Seg.blank a.segs i g) (j : Nat) : b.seg j = if j = i then g else a.seg j := by
  rw [Acq.seg, h]
  exact Acq.seg_put hw i g j

theorem segs_setSeg (s : State) (i : Nat) (g : Seg) :
    (s.setSeg i g).acq.segs = Cells.put Seg.blank s.acq.segs i g := rfl

theorem seg_setSeg {s : State} (m : MemoryLaw s) (i : Nat) (g : Seg) (j : Nat) :
    (s.setSeg i g).acq.seg j = if j = i then g else s.acq.seg j := Acq.seg_setSeg m.1 i g j

theorem seg_freeSeg {s : State} (m : MemoryLaw s) (i j : Nat) :
    (s.freeSeg i).acq.seg j = if j = i then Seg.blank else s.acq.seg j := seg_put m.1 rfl j

/-- Freeing a segment that is not kept touches no other record. -/
theorem seg_freeIfUnkept_ne {s : State} (m : MemoryLaw s) {i j : Nat} (h : j ≠ i) :
    (s.freeIfUnkept i).acq.seg j = s.acq.seg j := by
  unfold State.freeIfUnkept
  split
  · rw [seg_freeSeg m, if_neg h]
  · rfl

theorem memory_setSeg {s : State} (m : MemoryLaw s) (i : Nat) (g : Seg) : MemoryLaw (s.setSeg i g) :=
  ⟨Cells.wf_put m.1 i g, m.2⟩

/-- The end of a segment's render touches no other record. -/
theorem seg_clearPending_ne {s : State} (m : MemoryLaw s) {i j : Nat} (h : j ≠ i) :
    (s.clearPending i).acq.seg j = s.acq.seg j := by
  rw [State.clearPending, seg_freeIfUnkept_ne (memory_setSeg m i _) h, seg_setSeg m, if_neg h]

/-- Room is made by the oldest in the queue: every other record stays (R110). -/
theorem seg_makeRoom {s : State} (m : MemoryLaw s) {i : Nat} (h : i ∉ s.rend.queue) :
    s.makeRoom.acq.seg i = s.acq.seg i := by
  unfold State.makeRoom
  split
  · rfl
  · split
    · next k q hq =>
      have hne : i ≠ k := fun e => h (by simp [hq, e])
      exact seg_clearPending_ne (s := { s with rend := { s.rend with queue := q } }) m hne
    · rfl

/-- The segment that becomes current keeps the rest of its record (R97, R105). -/
theorem seg_makeCurrent_self {s : State} (m : MemoryLaw s) (i : Nat) :
    (s.makeCurrent i).acq.seg i = { s.acq.seg i with current := true } := by
  unfold State.makeCurrent
  split
  · next j hj =>
    split
    · next h =>
      have hc := Acq.current_of_currentIdx m.1 hj
      rw [h] at hc
      rw [← hc]
    · next h =>
      dsimp only
      rw [seg_freeIfUnkept_ne (memory_setSeg (memory_setSeg m _ _) _ _) (Ne.symm h), seg_setSeg (memory_setSeg m _ _),
        if_pos rfl, State.seg_eq, seg_setSeg m, if_neg (Ne.symm h)]
  · rw [seg_setSeg m, if_pos rfl, State.seg_eq]

/-! ## The laws of a record -/

/-- At most one segment is current, and it is COMPLETE (R86). -/
def CurrentLaw (a : Acq) : Prop :=
  (∀ i j, (a.seg i).current = true → (a.seg j).current = true → i = j)
    ∧ ∀ i, (a.seg i).current = true → (a.seg i).state = .complete

theorem acqLaw_iff (s : State) : AcqLaw s ↔ FillingOne s.acq ∧ CurrentLaw s.acq := by
  unfold AcqLaw CurrentLaw
  rw [← fills_iff]
  exact ⟨fun ⟨h1, h2, h3, h4, h5⟩ => ⟨⟨h1, h2, h3⟩, h4, h5⟩, fun ⟨⟨h1, h2, h3⟩, h4, h5⟩ => ⟨h1, h2, h3, h4, h5⟩⟩

/-- A record that holds are counted in is COMPLETE. -/
def HoldSound (g : Seg) : Prop := 0 < g.holdsA + g.holdsB → g.state = .complete

/-- Record h counts the holds of g, and is COMPLETE where there are any. -/
def HoldsSame (g h : Seg) : Prop := h.holdsA = g.holdsA ∧ h.holdsB = g.holdsB ∧ HoldSound h

theorem HoldsSame.trans {g h k : Seg} (p : HoldsSame g h) (q : HoldsSame h k) : HoldsSame g k :=
  ⟨q.1.trans p.1, q.2.1.trans p.2.1, q.2.2⟩

/-- The record refers to snapshot entry e and is not FREE. -/
def Seg.refers (e : Nat) (g : Seg) : Bool := decide (g.state ≠ .free ∧ g.snap = some e)

theorem refers_blank (e : Nat) : Seg.refers e Seg.blank = false := by simp [Seg.refers, Seg.blank]

/-- The memories after one record is replaced. -/
theorem memoryLaw_put {s t : State} (hi : Inner s t) {i : Nat} {g : Seg}
    (hsegs : t.acq.segs = Cells.put Seg.blank s.acq.segs i g)
    (hrest : (t.acq.samples, t.rend.rasters) = (s.acq.samples, s.rend.rasters)) (h : MemoryLaw s) : MemoryLaw t := by
  obtain ⟨hsam, hras⟩ := Prod.mk.inj hrest
  obtain ⟨m1, m⟩ := h
  unfold MemoryLaw
  rw [hsegs, hsam, hras, hi.comp, hi.store]
  exact ⟨Cells.wf_put m1 i g, m⟩

/-- The counts of holds after one record is replaced by one that counts the same. -/
theorem holdsSame_put {a b : Acq} (hw : Cells.wf Seg.blank a.segs = true) {i : Nat} {g : Seg}
    (hsegs : b.segs = Cells.put Seg.blank a.segs i g) (hh : HoldSound (a.seg i) → HoldsSame (a.seg i) g) (j : Nat)
    (hs : HoldSound (a.seg j)) : HoldsSame (a.seg j) (b.seg j) := by
  rw [seg_put hw hsegs]
  split
  · next hj => exact hj ▸ hh (hj ▸ hs)
  · exact ⟨rfl, rfl, hs⟩

/-- The law of the snapshot table after one record is replaced, where each entry's count follows the reference that the
record gives up or takes (R88). -/
theorem snapshotLaw_put {s t : State} (hw : Cells.wf Seg.blank s.acq.segs = true) (h : SnapshotLaw s) (i : Nat) {g : Seg}
    (hsegs : t.acq.segs = Cells.put Seg.blank s.acq.segs i g) (hlen : t.acq.snaps.length = 12)
    (hrefs : ∀ e n, t.acq.snaps[e]? = some n → ∃ m, s.acq.snaps[e]? = some m
      ∧ n.refs + (Seg.refers e (s.acq.seg i)).toNat = m.refs + (Seg.refers e g).toNat)
    (hused : g.state ≠ .free → ∃ e < 12, g.snap = some e) (hfree : g.state = .free → g = Seg.blank)
    (hnew : ∀ e, t.acq.newest = some e → e < 12) : SnapshotLaw t := by
  obtain ⟨-, hcount, hu, hf, -⟩ := h
  have hseg := seg_put hw hsegs
  refine ⟨hlen, fun e n hn => ?_, fun j => ?_, fun j => ?_, hnew⟩
  · obtain ⟨m, hm, hmn⟩ := hrefs e n hn
    have hc := Cells.countP_put hw (refers_blank e) i g
    have hold : m.refs = s.acq.segs.countP (fun c => Seg.refers e c.2) := hcount e m hm
    have hnow : t.acq.segs.countP (fun c => Seg.refers e c.2) + (Seg.refers e (s.acq.seg i)).toNat
        = s.acq.segs.countP (fun c => Seg.refers e c.2) + (Seg.refers e g).toNat := hsegs ▸ hc
    change n.refs = t.acq.segs.countP (fun c => Seg.refers e c.2)
    omega
  · rw [hseg]
    split
    · exact hused
    · exact hu j
  · rw [hseg]
    split
    · exact hfree
    · exact hf j

/-- The law of the snapshot table after a record takes flags and counts alone. -/
theorem snapshotLaw_mark {s : State} (hw : Cells.wf Seg.blank s.acq.segs = true) (h : SnapshotLaw s) {i : Nat} {g : Seg}
    (hs : g.state = (s.acq.seg i).state) (hn : g.snap = (s.acq.seg i).snap)
    (hb : s.acq.seg i = Seg.blank → g = Seg.blank) : SnapshotLaw (s.setSeg i g) := by
  have hsame (e : Nat) : Seg.refers e g = Seg.refers e (s.acq.seg i) := by simp [Seg.refers, hs, hn]
  have ⟨hlen, _, hused, hfree, hnew⟩ := h
  exact snapshotLaw_put hw h i rfl hlen (fun e n hn' => ⟨n, hn', by rw [hsame]⟩) (fun hf => hn ▸ hused i (hs ▸ hf))
    (fun hf => hb (hfree i (hs ▸ hf))) hnew

/-- The law of the snapshot table speaks of the records, the table and the newest entry alone. -/
theorem snapshotLaw_congr {s t : State} (h : SnapshotLaw s)
    (ha : (t.acq.segs, t.acq.snaps, t.acq.newest) = (s.acq.segs, s.acq.snaps, s.acq.newest)) : SnapshotLaw t := by
  simp only [Prod.mk.injEq] at ha
  obtain ⟨h1, h2, h3⟩ := ha
  unfold SnapshotLaw Acq.seg at *
  rw [h1, h2, h3]
  exact h

/-! ## The relation -/

/-- An operation of the inner blocks that keeps the memories' form and the laws of the current segment, of the snapshot
table and of the holds that the records count. `shown` is what the law of the snapshot table may rest on besides. -/
structure RecordsKept (shown : Prop) (s t : State) : Prop where
  inner : Inner s t
  memory : MemoryLaw s → MemoryLaw t
  current : MemoryLaw s → CurrentLaw s.acq → CurrentLaw t.acq
  snapshot : shown → MemoryLaw s → CurrentLaw s.acq → SnapshotLaw s → SnapshotLaw t
  holds : MemoryLaw s → ∀ i, HoldSound (s.acq.seg i) → HoldsSame (s.acq.seg i) (t.acq.seg i)

namespace RecordsKept

variable {shown : Prop}

theorem refl (s : State) : RecordsKept shown s s := ⟨.refl s, id, fun _ => id, fun _ _ _ => id, fun _ _ h => ⟨rfl, rfl, h⟩⟩

theorem trans {s t u : State} (h : RecordsKept shown s t) (k : RecordsKept shown t u) : RecordsKept shown s u where
  inner := h.inner.trans k.inner
  memory := k.memory ∘ h.memory
  current := fun m c => k.current (h.memory m) (h.current m c)
  snapshot := fun g m c l => k.snapshot g (h.memory m) (h.current m c) (h.snapshot g m c l)
  holds := fun m i hs => (h.holds m i hs).trans (k.holds (h.memory m) i (h.holds m i hs).2.2)

theorem ite {s t u : State} {c : Prop} [Decidable c] (h : RecordsKept shown s t) (k : RecordsKept shown s u) :
    RecordsKept shown s (if c then t else u) := by split <;> assumption

theorem foldl {α : Type} {f : State → α → State} (h : ∀ s a, RecordsKept shown s (f s a)) (l : List α) (s : State) :
    RecordsKept shown s (l.foldl f s) := by
  induction l generalizing s with
  | nil => exact refl s
  | cons a l ih => exact (h s a).trans (ih _)

/-- The records, the snapshot table and sample memory stay, and the rasters keep their form. -/
theorem beside {s t : State} (hi : Inner s t)
    (h : (t.acq.segs, t.acq.snaps, t.acq.newest) = (s.acq.segs, s.acq.snaps, s.acq.newest))
    (hs : Cells.wf (0 : Byte) s.acq.samples = true → Cells.wf (0 : Byte) t.acq.samples = true)
    (hr : Cells.wf (0 : Byte) s.rend.rasters = true → Cells.wf (0 : Byte) t.rend.rasters = true) :
    RecordsKept shown s t := by
  have hsegs : t.acq.segs = s.acq.segs := congrArg Prod.fst h
  have hseg (i : Nat) : t.acq.seg i = s.acq.seg i := by rw [Acq.seg, hsegs]; rfl
  refine ⟨hi, ?_, fun _ c => ?_, fun _ _ _ l => snapshotLaw_congr l h, fun _ i g => ?_⟩
  · unfold MemoryLaw
    rw [hsegs, hi.comp, hi.store]
    exact fun ⟨m1, m2, m3, m⟩ => ⟨m1, hs m2, hr m3, m⟩
  · simpa only [CurrentLaw, hseg] using c
  · rw [hseg]
    exact ⟨rfl, rfl, g⟩

/-- What is done beside the segment store and the rasters. -/
theorem regs {s t : State} (hi : Inner s t)
    (h : (t.acq.segs, t.acq.snaps, t.acq.newest, t.acq.samples, t.rend.rasters)
      = (s.acq.segs, s.acq.snaps, s.acq.newest, s.acq.samples, s.rend.rasters)) : RecordsKept shown s t := by
  simp only [Prod.mk.injEq] at h
  obtain ⟨h1, h2, h3, h4, h5⟩ := h
  exact beside hi (by rw [h1, h2, h3]) (fun w => h4 ▸ w) fun w => h5 ▸ w

/-- One record is replaced, the snapshot table moving with it; the laws of the record are those the new one obeys. -/
theorem put {s t : State} (hi : Inner s t) (i : Nat) (g : Seg)
    (hsegs : t.acq.segs = Cells.put Seg.blank s.acq.segs i g)
    (hrest : (t.acq.samples, t.rend.rasters) = (s.acq.samples, s.rend.rasters))
    (hc : MemoryLaw s → CurrentLaw s.acq → g.current = true →
      g.state = .complete ∧ ∀ j, (s.acq.seg j).current = true → j = i)
    (hsnap : shown → MemoryLaw s → CurrentLaw s.acq → SnapshotLaw s → SnapshotLaw t)
    (hh : MemoryLaw s → HoldSound (s.acq.seg i) → HoldsSame (s.acq.seg i) g) : RecordsKept shown s t := by
  refine ⟨hi, memoryLaw_put hi hsegs hrest, fun m c => ⟨fun j k => ?_, fun j => ?_⟩, hsnap,
    fun m => holdsSame_put m.1 hsegs (hh m)⟩
  · rw [seg_put m.1 hsegs, seg_put m.1 hsegs]
    split
    · next hj =>
      split
      · next hk => exact fun _ _ => hj.trans hk.symm
      · exact fun hg hk => hj.trans ((hc m c hg).2 k hk).symm
    · split
      · next hk => exact fun hj hg => ((hc m c hg).2 j hj).trans hk.symm
      · exact c.1 j k
  · rw [seg_put m.1 hsegs]
    split
    · exact fun hg => (hc m c hg).1
    · exact c.2 j

/-- Everything but what `Inner` says may use the memories' form. -/
theorem of_memory {s t : State} (hi : Inner s t) (k : MemoryLaw s → RecordsKept shown s t) : RecordsKept shown s t :=
  ⟨hi, fun m => (k m).memory m, fun m => (k m).current m, fun g m => (k m).snapshot g m, fun m => (k m).holds m⟩

/-- The law of the snapshot table may use the premises under which it is kept. -/
theorem of_premises {s t : State} (h : RecordsKept False s t)
    (k : shown → MemoryLaw s → CurrentLaw s.acq → RecordsKept shown s t) : RecordsKept shown s t :=
  ⟨h.inner, h.memory, h.current, fun g m c => (k g m c).snapshot g m c, h.holds⟩

/-! ## Records -/

/-- A record whose state, snapshot entry and holds stay, and that does not become current; one that is FREE becomes
nothing else. -/
theorem mark (s : State) (i : Nat) {g : Seg} (hs : g.state = (s.acq.seg i).state) (hn : g.snap = (s.acq.seg i).snap)
    (hh : (g.holdsA, g.holdsB) = ((s.acq.seg i).holdsA, (s.acq.seg i).holdsB))
    (hc : g.current = true → (s.acq.seg i).current = true)
    (hb : shown → MemoryLaw s → CurrentLaw s.acq → s.acq.seg i = Seg.blank → g = Seg.blank) :
    RecordsKept shown s (s.setSeg i g) := by
  obtain ⟨hA, hB⟩ := Prod.mk.inj hh
  exact put (inner_setSeg s i g) i g rfl rfl (fun _ c hg => ⟨hs ▸ c.2 i (hc hg), fun j hj => c.1 j i hj (hc hg)⟩)
    (fun k m c l => snapshotLaw_mark m.1 l hs hn (hb k m c)) fun _ k => ⟨hA, hB, fun h => hs ▸ k (by omega)⟩

/-- A record whose flags fall or stay: a blank record stays blank. -/
theorem unmark (s : State) (i : Nat) (f : Seg → Seg) (hs : (f (s.acq.seg i)).state = (s.acq.seg i).state)
    (hn : (f (s.acq.seg i)).snap = (s.acq.seg i).snap)
    (hh : ((f (s.acq.seg i)).holdsA, (f (s.acq.seg i)).holdsB) = ((s.acq.seg i).holdsA, (s.acq.seg i).holdsB))
    (hc : (f (s.acq.seg i)).current = true → (s.acq.seg i).current = true) (hb : f Seg.blank = Seg.blank) :
    RecordsKept shown s (s.setSeg i (f (s.acq.seg i))) := mark s i hs hn hh hc fun _ _ _ h => h ▸ hb

/-- A used segment is freed, one without a hold or one that is FILLING. -/
theorem freeSeg (s : State) (i : Nat)
    (hu : MemoryLaw s → CurrentLaw s.acq → (s.acq.seg i).state ≠ .free)
    (hh : MemoryLaw s → (s.acq.seg i).state = .filling ∨ (s.acq.seg i).holdsA + (s.acq.seg i).holdsB = 0) :
    RecordsKept shown s (s.freeSeg i) := by
  refine put (inner_freeSeg s i) i Seg.blank rfl rfl (fun _ _ h => by simp [Seg.blank] at h) (fun _ m c l => ?_)
    fun m k => ?_
  · obtain ⟨e, -, he⟩ := l.2.2.1 i (hu m c)
    have hsnaps : (s.freeSeg i).acq.snaps = updateAt s.acq.snaps e fun n => { n with refs := n.refs - 1 } := by
      change dropRef s.acq.snaps (s.acq.seg i).snap = _
      rw [he]
      rfl
    have hpos {n : Snap} (hn : s.acq.snaps[e]? = some n) : 0 < n.refs := by
      rw [l.2.1 e n hn, List.countP_pos_iff]
      exact ⟨_, Acq.mem_segs (hu m c), by simpa [he] using hu m c⟩
    refine snapshotLaw_put m.1 l i rfl (by rw [hsnaps, length_updateAt]; exact l.1) (fun k n hn => ?_)
      (fun h => absurd rfl h) (fun _ => rfl) l.2.2.2.2
    rw [hsnaps, getElem?_updateAt, Option.map_eq_some_iff] at hn
    obtain ⟨n', hn', rfl⟩ := hn
    refine ⟨n', hn', ?_⟩
    rw [refers_blank]
    by_cases hk : k = e
    · subst hk
      have := hpos hn'
      simp [Seg.refers, hu m c, he]
      omega
    · simp [Seg.refers, he, hk, Ne.symm hk]
  · have h0 : (s.acq.seg i).holdsA + (s.acq.seg i).holdsB = 0 := by
      rcases hh m with hf | h0
      · by_contra hne
        have := k (by omega)
        rw [hf] at this
        simp at this
      · exact h0
    exact ⟨by simp [Seg.blank]; omega, by simp [Seg.blank]; omega, fun h => by simp [Seg.blank] at h⟩

theorem freeIfUnkept (s : State) (i : Nat) : RecordsKept shown s (s.freeIfUnkept i) := by
  unfold State.freeIfUnkept
  split
  · next h =>
    obtain ⟨hc, hk⟩ := h
    rw [State.seg_eq] at hc
    refine freeSeg s i (fun _ _ => by simp [hc]) fun _ => .inr ?_
    simpa [State.kept, Seg.holds] using (Bool.or_eq_false_iff.1 hk).1
  · exact refl s

theorem freeUnkept (s : State) (is : List Nat) : RecordsKept shown s (s.freeUnkept is) := foldl freeIfUnkept is s

theorem freeUnheld (s : State) (is : List Nat) : RecordsKept shown s (s.freeUnheld is) := by
  refine foldl (fun s i => ?_) is s
  split
  · next h =>
    rw [State.seg_eq] at h
    exact freeSeg s i (fun _ _ => by simp [h.1]) fun _ => .inr h.2
  · exact refl s

theorem abandonFilling (s : State) : RecordsKept shown s s.abandonFilling := by
  unfold State.abandonFilling
  split
  · next i hi =>
    have hf (m : MemoryLaw s) : (s.acq.seg i).state = .filling := Acq.filling_of_fillingIdx m.1 hi
    exact (freeSeg s i (fun m _ => by simp [hf m]) fun m => .inl (hf m)).trans (regs (.update _ _ _ _ _ _) rfl)
  · exact regs (.update _ _ _ _ _ _) rfl

/-- A COMPLETE segment becomes current while no other is. -/
theorem setCurrent (s : State) {i : Nat} (hi : MemoryLaw s → (s.acq.seg i).state = .complete)
    (hn : MemoryLaw s → ∀ j, (s.acq.seg j).current = true → j = i) :
    RecordsKept shown s (s.setSeg i { s.seg i with current := true }) :=
  put (inner_setSeg s i _) i _ rfl rfl (fun m _ _ => ⟨hi m, hn m⟩)
    (fun _ m _ l => snapshotLaw_mark m.1 l rfl rfl fun h => by simpa [h, Seg.blank] using hi m) fun _ k => ⟨rfl, rfl, k⟩

/-- The flag passes from the current segment to one that is COMPLETE (R97, R105). -/
theorem passCurrent (s : State) {i j : Nat} (hj : MemoryLaw s → (s.acq.seg j).current = true)
    (hi : MemoryLaw s → (s.acq.seg i).state = .complete) (hne : j ≠ i) :
    RecordsKept shown s ((s.setSeg j { s.seg j with current := false }).setSeg i
      { (s.setSeg j { s.seg j with current := false }).seg i with current := true }) := by
  have h1 : RecordsKept shown s (s.setSeg j { s.seg j with current := false }) :=
    unmark s j (fun g => { g with current := false }) rfl rfl rfl (by simp) rfl
  by_cases hl : MemoryLaw s ∧ CurrentLaw s.acq
  · obtain ⟨m, c⟩ := hl
    refine h1.trans (setCurrent _ (fun _ => ?_) fun _ k hk => ?_)
    · rw [seg_setSeg m, if_neg hne.symm]
      exact hi m
    · rw [seg_setSeg m] at hk
      split at hk
      · simp at hk
      · next hkj => exact absurd (c.1 k j hk (hj m)) hkj
  · refine ⟨h1.inner.trans (inner_setSeg _ _ _), memoryLaw_put (inner_setSeg _ _ _) rfl rfl ∘ h1.memory,
      fun m c => absurd ⟨m, c⟩ hl, fun _ m c => absurd ⟨m, c⟩ hl, fun m k hs => (h1.holds m k hs).trans ?_⟩
    refine holdsSame_put (h1.memory m).1 (segs_setSeg _ i _) ?_ k (h1.holds m k hs).2.2
    exact fun h => ⟨rfl, rfl, h⟩

theorem makeCurrent (s : State) {i : Nat} (hi : MemoryLaw s → (s.acq.seg i).state = .complete) :
    RecordsKept shown s (s.makeCurrent i) := by
  unfold State.makeCurrent
  split
  · next j hj =>
    split
    · exact refl s
    · next hne => exact (passCurrent s (fun m => Acq.current_of_currentIdx m.1 hj) hi hne).trans (freeIfUnkept _ _)
  · next hj => exact setCurrent s hi fun _ j hc => by simp [Acq.not_current_of_currentIdx hj j] at hc

/-! ## Renderer -/

end RecordsKept

theorem wf_drawColumn {ras : Cells Byte} (h : Cells.wf (0 : Byte) ras = true) (a : Acq) (r : Render) (m : ChanMap) :
    Cells.wf (0 : Byte) (drawColumn a r m ras) = true := by
  unfold drawColumn
  generalize (spanOf (spanRows a r m)).map (fun row => rasterKey m.ch r.col row) = ks
  induction ks generalizing ras with
  | nil => exact h
  | cons k ks ih => exact ih (Cells.wf_put h _ _)

namespace RecordsKept

variable {shown : Prop}

theorem consumeDecay (s : State) : RecordsKept shown s s.consumeDecay := by
  refine beside (inner_consumeDecay s) rfl id fun h => ?_
  unfold State.consumeDecay decayRasters
  dsimp only
  split
  · split
    · rfl
    · split
      · exact Cells.wf_mapVals h _
      · exact h
  · exact h

theorem clearPending (s : State) (i : Nat) : RecordsKept shown s (s.clearPending i) :=
  (unmark s i (fun g => { g with pending := false }) rfl rfl rfl id rfl).trans (freeIfUnkept _ i)

theorem makeRoom (s : State) : RecordsKept shown s s.makeRoom := by
  unfold State.makeRoom
  split
  · exact refl s
  · split
    · exact (regs (.update _ _ _ _ _ _) (by rfl)).trans (clearPending _ _)
    · exact refl s

/-- A segment that is not FREE, and not in the queue, is handed to the renderer (R109, R110). -/
theorem handOff (s : State) (i : Nat) (hi : shown → MemoryLaw s → CurrentLaw s.acq → (s.acq.seg i).state ≠ .free) :
    RecordsKept shown s (s.handOff i) := by
  unfold State.handOff
  split
  · exact refl s
  · next hq =>
    rw [List.contains_iff_mem] at hq
    have enqueued {p : Prop} (h : p → s.makeRoom.acq.seg i ≠ Seg.blank) : RecordsKept p s (s.makeRoom.enqueue i) :=
      (makeRoom s).trans (trans (t := { s.makeRoom with rend := { s.makeRoom.rend with
        queue := s.makeRoom.rend.queue ++ [i] } }) (regs (.update _ _ _ _ _ _) rfl)
        (mark _ i rfl rfl rfl id fun k _ _ hb => absurd hb (h k)))
    refine of_premises (enqueued False.elim) fun k m c => enqueued fun _ hb => hi k m c ?_
    rw [← seg_makeRoom m hq, hb]
    rfl

theorem abandonRender (s : State) : RecordsKept shown s s.abandonRender := by
  unfold State.abandonRender
  split
  · exact (regs (.update _ _ _ _ _ _) (by rfl)).trans (clearPending _ _)
  · exact refl s

theorem clearRasters (s : State) : RecordsKept shown s s.clearRasters :=
  (beside (.update _ _ _ _ _ _) (by rfl) id fun _ => rfl).trans (abandonRender _)

theorem purge (s : State) : RecordsKept shown s s.purge :=
  ((regs (.update _ _ _ _ _ _) (by rfl)).trans (foldl clearPending _ _)).trans (abandonRender _)

theorem takeRender (s : State) (n : Nat) : RecordsKept shown s (s.takeRender n) := by
  induction n generalizing s with
  | zero => exact refl s
  | succ n ih =>
    unfold State.takeRender
    split
    · exact refl s
    · exact ite (((regs (.update _ _ _ _ _ _) (by rfl)).trans (clearPending _ _)).trans (ih _))
        (regs (.update _ _ _ _ _ _) rfl)

/-! ## Arming -/

theorem takeTrigger (s : State) (auto : Bool) : RecordsKept shown s (s.takeTrigger auto) := by
  have taken : RecordsKept shown s { s with
      trig := s.trig.taken (s.fieldVal 49) (s.fieldVal fidAuxSource)
      acq := { s.acq with state := .posttrig, postCount := 0 } } := regs (.update _ _ _ _ _ _) rfl
  unfold State.takeTrigger
  dsimp only
  split
  · next i hi =>
    have hf (m : MemoryLaw s) : (s.acq.seg i).state = .filling := Acq.filling_of_fillingIdx m.1 hi
    exact taken.trans (mark _ i rfl rfl rfl id fun _ m _ hb => absurd (hf m) (by
      rw [show s.acq.seg i = Seg.blank from hb]; simp [Seg.blank]))
  · exact taken

theorem passToReady (s : State) : RecordsKept shown s s.passToReady :=
  ite ((regs (.update _ _ _ _ _ _) (by rfl)).trans (takeTrigger _ _)) (regs (.update _ _ _ _ _ _) rfl)

end RecordsKept

/-- The entry that a segment's snapshot takes is one of the table, and no count has changed (R88). -/
theorem refs_obtain {s : State} {e : Nat} {snaps : List Snap} (h : s.obtain = some (e, snaps))
    (l : SnapshotLaw s) : e < 12 ∧ snaps.length = 12
      ∧ ∀ (k : Nat) (n : Snap), snaps[k]? = some n → ∃ m : Snap, s.acq.snaps[k]? = some m ∧ n.refs = m.refs := by
  obtain ⟨hlen, -, -, -, hnew⟩ := l
  rcases entryTaken_iff.2 h with ⟨⟨he, -⟩, rfl⟩ | ⟨-, ⟨m, hm, h0⟩, -, rfl⟩
  · exact ⟨hnew e he, hlen, fun k n hn => ⟨n, hn, rfl⟩⟩
  · obtain ⟨hlt, -⟩ := List.getElem?_eq_some_iff.1 hm
    refine ⟨hlen ▸ hlt, by simp [hlen], fun k n hn => ?_⟩
    by_cases hk : e = k
    · subst hk
      rw [List.getElem?_set_self hlt] at hn
      exact ⟨m, hm, by rw [← Option.some.inj hn, h0]⟩
    · rw [List.getElem?_set_ne hk] at hn
      exact ⟨n, hn, rfl⟩

namespace RecordsKept

variable {shown : Prop}

/-- A FREE record becomes that of the filling segment (R88, R93). -/
theorem entered {s : State} {i e : Nat} {snaps : List Snap} (hi : MemoryLaw s → (s.acq.seg i).state = .free)
    (h : s.obtain = some (e, snaps)) : RecordsKept shown s (s.entered i e snaps) := by
  refine put (.update _ _ _ _ _ _) i (s.enteredSeg e snaps) rfl rfl (fun _ _ hc => by simp [State.enteredSeg, Seg.blank] at hc)
    (fun _ m _ l => ?_) fun m hs => ?_
  · obtain ⟨he, hlen, hrefs⟩ := refs_obtain h l
    refine snapshotLaw_put m.1 l i rfl (by simpa [State.entered] using hlen) (fun k n hn => ?_)
      (fun _ => ⟨e, he, rfl⟩) (fun hf => by simp [State.enteredSeg] at hf) fun k hk => ?_
    · simp only [State.entered, getElem?_updateAt, Option.map_eq_some_iff] at hn
      obtain ⟨n', hn', rfl⟩ := hn
      obtain ⟨b, hb, hr⟩ := hrefs k n' hn'
      refine ⟨b, hb, ?_⟩
      have hfree : Seg.refers k (s.acq.seg i) = false := by simp [Seg.refers, hi m]
      rw [hfree]
      by_cases hk : k = e
      · simp [hk, Seg.refers, State.enteredSeg, hr]
      · simp [hk, Ne.symm hk, Seg.refers, State.enteredSeg, hr]
    · obtain rfl : e = k := Option.some.inj hk
      exact he
  · have h0 : ¬ 0 < (s.acq.seg i).holdsA + (s.acq.seg i).holdsB := fun k => by
      have := hs k
      rw [hi m] at this
      cases this
    exact ⟨by simp [State.enteredSeg, Seg.blank]; omega, by simp [State.enteredSeg, Seg.blank]; omega,
      fun k => by simp [State.enteredSeg, Seg.blank] at k⟩

theorem enterFilling {s : State} {i e : Nat} {snaps : List Snap} (hi : MemoryLaw s → (s.acq.seg i).state = .free)
    (h : s.obtain = some (e, snaps)) : RecordsKept shown s (s.enterFilling i e snaps) := by
  rw [enterFilling_eq]
  exact ite ((entered hi h).trans (passToReady _)) (entered hi h)

end RecordsKept

/-- The record of a segment as it becomes COMPLETE (R97 step 2). -/
def State.completedSeg (s : State) (i : Nat) : Seg :=
  { s.acq.seg i with state := .complete, seq := s.acq.counter + 1, ovr := chanBits (s.acq.overrange i) }

/-- Segment i has just become COMPLETE; that it becomes current is still to come. -/
def State.completed (s : State) (i : Nat) : State :=
  { s with acq := { s.acq with
    counter := s.acq.counter + 1, segs := Cells.put Seg.blank s.acq.segs i (s.completedSeg i), decim := none
    fillCount := 0, postCount := 0 } }

theorem completeSeg_eq (s : State) (i : Nat) : s.completeSeg i = (s.completed i).makeCurrent i := rfl

theorem seg_completed {s : State} (m : MemoryLaw s) (i j : Nat) :
    (s.completed i).acq.seg j = if j = i then s.completedSeg i else s.acq.seg j := seg_put m.1 rfl j

theorem inner_completed (s : State) (i : Nat) : Inner s (s.completed i) := .update _ _ _ _ _ _

namespace RecordsKept

variable {shown : Prop}

/-- The filling segment becomes COMPLETE (R97). -/
theorem completed {s : State} {i : Nat} (hi : MemoryLaw s → (s.acq.seg i).state = .filling) :
    RecordsKept shown s (s.completed i) := by
  refine put (inner_completed s i) i (s.completedSeg i) rfl rfl (fun m c hg => ?_) (fun _ m _ l => ?_)
    fun m _ => ⟨rfl, rfl, fun _ => rfl⟩
  · have hc := c.2 i hg
    rw [hi m] at hc
    cases hc
  · have ⟨hlen, _, hused, _, hnew⟩ := l
    have hsame (e : Nat) : Seg.refers e (s.completedSeg i) = Seg.refers e (s.acq.seg i) := by
      simp [Seg.refers, State.completedSeg, hi m]
    exact snapshotLaw_put m.1 l i rfl hlen (fun e n hn => ⟨n, hn, by rw [hsame]⟩)
      (fun _ => hused i (by simp [hi m])) (fun hf => by cases hf) hnew

end RecordsKept

/-- The record of a segment that has been completed (R97). -/
theorem seg_completeSeg_self {s : State} (m : MemoryLaw s) (i : Nat) :
    (s.completeSeg i).acq.seg i = { s.completedSeg i with current := true } := by
  rw [completeSeg_eq, seg_makeCurrent_self (memoryLaw_put (inner_completed s i) rfl rfl m), seg_completed m, if_pos rfl]

theorem mode_makeCurrent (s : State) (i : Nat) : (s.makeCurrent i).acq.mode = s.acq.mode := by
  have freed (t : State) (j : Nat) : (t.freeIfUnkept j).acq.mode = t.acq.mode := by
    unfold State.freeIfUnkept
    split <;> rfl
  unfold State.makeCurrent
  split
  · split
    · rfl
    · exact freed _ _
  · rfl

end Sys2Proof.Machine
end

section
/-!
SUPPORT. What keeps a segment and what waits in the render queue: the law that every COMPLETE segment is kept (R87), and
the laws of the queue that hold all through an act (R107, R108), under each shared operation, over the relation
`StoreKept`.
-/

namespace Sys2Proof.Machine

/-! ## Keeping (R87) -/

theorem kept_iff (s : State) (i : Nat) : s.kept i = true ↔ Kept s i := by
  simp [State.kept, Kept, KeptLess, Seg.holds, or_assoc]

theorem slots_of_inner {s t : State} (h : Inner s t) : t.slots = s.slots := by
  rw [State.slots, State.slots, State.recordLength, State.recordLength, h.straps, fieldVal_congr h.recs]

/-- Every COMPLETE segment is kept, but for those with a property. -/
def KeptBut (d : Nat → Prop) (s : State) : Prop := ∀ i, ¬ d i → (s.acq.seg i).state = .complete → Kept s i

/-- Every COMPLETE segment is kept. -/
abbrev AllKept (s : State) : Prop := KeptBut (fun _ => False) s

theorem KeptBut.mono {d e : Nat → Prop} {s : State} (h : KeptBut d s) (hd : ∀ i, d i → e i) : KeptBut e s :=
  fun i hi => h i fun k => hi (hd i k)

/-- A segment is kept by what kept it before. -/
theorem Kept.of_eq {s t : State} {i : Nat} (h : Kept s i) (hs : t.slots = s.slots)
    (hh : (t.acq.seg i).holdsA + (t.acq.seg i).holdsB = (s.acq.seg i).holdsA + (s.acq.seg i).holdsB)
    (hc : (s.acq.seg i).current = true → (t.acq.seg i).current = true)
    (hp : (s.acq.seg i).pending = true → (t.acq.seg i).pending = true) (hl : i ∈ s.acq.seqList → i ∈ t.acq.seqList) :
    Kept t i := by
  rcases h with h | ⟨hk, h⟩
  · exact .inl (hh ▸ h)
  · exact .inr ⟨hs ▸ hk, h.imp hc (.imp hp hl)⟩

/-- Freeing a segment takes nothing away that keeps another. -/
theorem Kept.freeSeg {s : State} (m : MemoryLaw s) {i j : Nat} (h : Kept s j) (hne : j ≠ i) : Kept (s.freeSeg i) j := by
  have hseg : (s.freeSeg i).acq.seg j = s.acq.seg j := by rw [seg_freeSeg m, if_neg hne]
  exact h.of_eq rfl (by rw [hseg]) (by rw [hseg]; exact id) (by rw [hseg]; exact id)
    fun hm => List.mem_filter.2 ⟨hm, by simpa using hne⟩

theorem keptBut_freeSeg {d : Nat → Prop} {s : State} (m : MemoryLaw s) (h : KeptBut d s) (i : Nat) :
    KeptBut (fun j => d j ∧ j ≠ i) (s.freeSeg i) := by
  intro j hd hj
  rw [seg_freeSeg m] at hj
  by_cases hji : j = i
  · simp [hji, Seg.blank] at hj
  · rw [if_neg hji] at hj
    exact (h j (fun k => hd ⟨k, hji⟩) hj).freeSeg m hji

/-- A segment that is freed where nothing keeps it is no exception any longer. -/
theorem keptBut_freeIfUnkept {d : Nat → Prop} {s : State} (m : MemoryLaw s) (h : KeptBut d s) (i : Nat) :
    KeptBut (fun j => d j ∧ j ≠ i) (s.freeIfUnkept i) := by
  unfold State.freeIfUnkept
  split
  · exact keptBut_freeSeg m h i
  · next hc =>
    intro j hd hj
    by_cases hji : j = i
    · subst hji
      by_contra hk
      exact hc ⟨hj, by rwa [← Bool.not_eq_true, kept_iff]⟩
    · exact h j (fun k => hd ⟨k, hji⟩) hj

theorem memory_freeIfUnkept {s : State} (m : MemoryLaw s) (i : Nat) : MemoryLaw (s.freeIfUnkept i) :=
  (RecordsKept.freeIfUnkept (shown := True) s i).memory m

theorem keptBut_freeUnkept {d : Nat → Prop} {s : State} (m : MemoryLaw s) (h : KeptBut d s) (is : List Nat) :
    KeptBut (fun j => d j ∧ j ∉ is) (s.freeUnkept is) := by
  induction is generalizing d s with
  | nil => exact h.mono fun j hj => ⟨hj, by simp⟩
  | cons i is ih =>
    exact (ih (memory_freeIfUnkept m i) (keptBut_freeIfUnkept m h i)).mono fun j ⟨⟨hd, hi⟩, hs⟩ => ⟨hd, by simp [hi, hs]⟩

/-- One step of the freeing of what no port holds. -/
def State.freeIfUnheld (s : State) (i : Nat) : State :=
  if (s.seg i).state = .complete ∧ (s.seg i).holds = 0 then s.freeSeg i else s

theorem freeUnheld_cons (s : State) (i : Nat) (is : List Nat) :
    s.freeUnheld (i :: is) = (s.freeIfUnheld i).freeUnheld is := rfl

theorem memory_freeIfUnheld {s : State} (m : MemoryLaw s) (i : Nat) : MemoryLaw (s.freeIfUnheld i) :=
  (RecordsKept.freeUnheld (shown := True) s [i]).memory m

theorem keptBut_freeUnheld {d : Nat → Prop} {s : State} (m : MemoryLaw s) (h : KeptBut d s) (is : List Nat) :
    KeptBut d (s.freeUnheld is) := by
  induction is generalizing s with
  | nil => exact h
  | cons i is ih =>
    refine ih (memory_freeIfUnheld m i) (s := s.freeIfUnheld i) ?_
    unfold State.freeIfUnheld
    split
    · exact (keptBut_freeSeg m h i).mono fun j hj => hj.1
    · exact h

/-- Each segment of a list that is COMPLETE without a hold is freed, and no other. -/
theorem seg_freeUnheld {s : State} (m : MemoryLaw s) (is : List Nat) (j : Nat) : (s.freeUnheld is).acq.seg j
    = if j ∈ is ∧ (s.acq.seg j).state = .complete ∧ (s.acq.seg j).holds = 0 then Seg.blank else s.acq.seg j := by
  induction is generalizing s with
  | nil => simp [State.freeUnheld]
  | cons i is ih =>
    rw [freeUnheld_cons, ih (memory_freeIfUnheld m i)]
    have hseg : (s.freeIfUnheld i).acq.seg j
        = if j = i ∧ (s.acq.seg j).state = .complete ∧ (s.acq.seg j).holds = 0 then Seg.blank else s.acq.seg j := by
      unfold State.freeIfUnheld
      by_cases hji : j = i
      · subst hji
        split
        · next h => rw [seg_freeSeg m, if_pos rfl, if_pos ⟨rfl, h⟩]
        · next h => rw [if_neg fun k => h k.2]
      · split
        · rw [seg_freeSeg m, if_neg hji, if_neg fun k => hji k.1]
        · rw [if_neg fun k => hji k.1]
    rw [hseg]
    by_cases hc : (s.acq.seg j).state = .complete ∧ (s.acq.seg j).holds = 0
    · by_cases hji : j = i
      · simp [hji ▸ hc, hji, Seg.blank]
      · simp [hc, hji]
    · simp [hc]

theorem memory_clearPending {s : State} (m : MemoryLaw s) (i : Nat) : MemoryLaw (s.clearPending i) :=
  (RecordsKept.clearPending (shown := True) s i).memory m

/-- One record is replaced: what keeps any other stays. -/
theorem keptBut_setSeg {d : Nat → Prop} {s : State} (m : MemoryLaw s) (h : KeptBut d s) (i : Nat) (g : Seg) :
    KeptBut (fun j => d j ∨ j = i) (s.setSeg i g) := by
  intro j hd hj
  have hseg : (s.setSeg i g).acq.seg j = s.acq.seg j := by rw [seg_setSeg m, if_neg fun k => hd (.inr k)]
  rw [hseg] at hj
  exact (h j (fun k => hd (.inl k)) hj).of_eq rfl (by rw [hseg]) (by rw [hseg]; exact id) (by rw [hseg]; exact id) id

/-- One record is replaced by one that all that kept it still keeps. -/
theorem keptBut_setSeg_self {d : Nat → Prop} {s : State} (m : MemoryLaw s) (h : KeptBut d s) {i : Nat} {g : Seg}
    (hs : g.state = .complete → (s.acq.seg i).state = .complete)
    (hh : g.holdsA + g.holdsB = (s.acq.seg i).holdsA + (s.acq.seg i).holdsB)
    (hc : (s.acq.seg i).current = true → g.current = true)
    (hp : (s.acq.seg i).pending = true → g.pending = true) : KeptBut d (s.setSeg i g) := by
  intro j hd hj
  by_cases hji : j = i
  · subst hji
    have hseg : (s.setSeg j g).acq.seg j = g := by rw [seg_setSeg m, if_pos rfl]
    rw [hseg] at hj
    exact (h j hd (hs hj)).of_eq rfl (by rw [hseg]; exact hh) (by rw [hseg]; exact hc) (by rw [hseg]; exact hp) id
  · exact keptBut_setSeg m h i g j (fun k => k.elim hd hji) hj

theorem keptBut_clearPending {d : Nat → Prop} {s : State} (m : MemoryLaw s) (h : KeptBut d s) (i : Nat) :
    KeptBut d (s.clearPending i) :=
  (keptBut_freeIfUnkept (memory_setSeg m i _) (keptBut_setSeg m h i _) i).mono fun _ ⟨hd, hi⟩ => hd.resolve_right hi

/-- Records that agree in state, holds, pending and current flags. -/
def SegAlike (g h : Seg) : Prop :=
  (h.state, h.holdsA, h.holdsB, h.pending, h.current) = (g.state, g.holdsA, g.holdsB, g.pending, g.current)

theorem KeptBut.alike {d : Nat → Prop} {s t : State} (h : KeptBut d s)
    (hg : ∀ j, SegAlike (s.acq.seg j) (t.acq.seg j)) (hk : t.slots = s.slots) (hl : t.acq.seqList = s.acq.seqList) :
    KeptBut d t := by
  intro j hd hj
  have := hg j
  simp only [SegAlike, Prod.mk.injEq] at this
  obtain ⟨h1, h2, h3, h4, h5⟩ := this
  exact (h j hd (h1 ▸ hj)).of_eq hk (by rw [h2, h3]) (by rw [h5]; exact id) (by rw [h4]; exact id) (hl ▸ id)

/-! ## The queue (R107, R108) -/

/-- The segment waits in the render queue, or its render is in flight. -/
def Queued (s : State) (i : Nat) : Prop := i ∈ s.rend.queue ∨ ∃ r, s.rend.render = some r ∧ r.seg = i

/-- The laws of the queue that hold all through an act. The segments with the property d have left the queue while their
flags still stand. -/
structure QueueBut (d : Nat → Prop) (s : State) : Prop where
  depth : s.rend.queue.length ≤ 8
  nodup : s.rend.queue.Nodup
  used : ∀ i, Queued s i → (s.acq.seg i).state = .complete ∧ (s.acq.seg i).pending = true
  flagged : ∀ i, (s.acq.seg i).pending = true → Queued s i ∨ d i
  apart : ∀ r, s.rend.render = some r → r.seg ∉ s.rend.queue
  left : ∀ i, d i → ¬ Queued s i

/-- The laws of the queue that hold all through an act. -/
abbrev QueueLaws (s : State) : Prop := QueueBut (fun _ => False) s

/-- A renderer with no render in flight has nothing waiting (R107). -/
def Resting (s : State) : Prop := s.rend.render = none → s.rend.queue = [] ∧ s.rend.decayDue = false

theorem renderQueueLaw_iff (s : State) : RenderQueueLaw s ↔ QueueLaws s ∧ Resting s := by
  constructor
  · rintro ⟨h1, h2, h3, h4, h5, h6⟩
    exact ⟨⟨h1, h2, h3, fun i hi => .inl (h4 i hi), h5, fun _ => False.elim⟩, h6⟩
  · rintro ⟨h, h6⟩
    exact ⟨h.depth, h.nodup, h.used, fun i hi => (h.flagged i hi).resolve_right id, h.apart, h6⟩

theorem QueueBut.congr {d e : Nat → Prop} {s : State} (h : QueueBut d s) (hd : ∀ i, d i ↔ e i) : QueueBut e s :=
  ⟨h.depth, h.nodup, h.used, fun i hi => (h.flagged i hi).imp_right (hd i).1, h.apart, fun i k => h.left i ((hd i).2 k)⟩

theorem queued_freeSeg (s : State) (i j : Nat) : Queued (s.freeSeg i) j ↔ Queued s j ∧ j ≠ i := by
  simp only [Queued, State.freeSeg, List.mem_filter, bne_iff_ne, ne_eq, Option.filter_eq_some_iff]
  constructor
  · rintro (⟨h, hn⟩ | ⟨r, ⟨h, hn⟩, rfl⟩)
    · exact ⟨.inl h, hn⟩
    · exact ⟨.inr ⟨r, h, rfl⟩, by simpa using hn⟩
  · rintro ⟨h | ⟨r, h, rfl⟩, hn⟩
    · exact .inl ⟨h, hn⟩
    · exact .inr ⟨r, ⟨h, by simpa using hn⟩, rfl⟩

/-- Freeing a segment that does not wait leaves the renderer alone. -/
theorem rend_freeSeg {s : State} {i : Nat} (h : ¬ Queued s i) : (s.freeSeg i).rend = s.rend := by
  have hq : s.rend.queue.filter (· != i) = s.rend.queue :=
    List.filter_eq_self.2 fun j hj => by
      simp only [bne_iff_ne, ne_eq]
      exact fun e => h (.inl (e ▸ hj))
  have hr : s.rend.render.filter (fun r => r.seg != i) = s.rend.render := by
    cases hr : s.rend.render with
    | none => rfl
    | some r => simpa using fun e => h (.inr ⟨r, hr, e⟩)
  simp only [State.freeSeg, hq, hr]

theorem QueueBut.freeSeg {d : Nat → Prop} {s : State} (m : MemoryLaw s) (h : QueueBut d s) (i : Nat) :
    QueueBut (fun j => d j ∧ j ≠ i) (s.freeSeg i) where
  depth := (List.length_filter_le _ _).trans h.depth
  nodup := h.nodup.filter _
  used := fun j hj => by
    obtain ⟨hq, hne⟩ := (queued_freeSeg s i j).1 hj
    rw [seg_freeSeg m, if_neg hne]
    exact h.used j hq
  flagged := fun j hj => by
    rw [seg_freeSeg m] at hj
    split at hj
    · simp [Seg.blank] at hj
    · next hne => exact (h.flagged j hj).imp (fun k => (queued_freeSeg s i j).2 ⟨k, hne⟩) fun k => ⟨k, hne⟩
  apart := fun r hr hm => by
    obtain ⟨hs, -⟩ := Option.filter_eq_some_iff.1 hr
    exact h.apart r hs (List.mem_filter.1 hm).1
  left := fun j ⟨hd, _⟩ hq => h.left j hd ((queued_freeSeg s i j).1 hq).1

theorem QueueBut.freeIfUnkept {d : Nat → Prop} {s : State} (m : MemoryLaw s) (h : QueueBut d s) {i : Nat}
    (hi : ¬ d i) : QueueBut d (s.freeIfUnkept i) := by
  unfold State.freeIfUnkept
  split
  · exact (h.freeSeg m i).congr fun j => ⟨And.left, fun k => ⟨k, fun e => hi (e ▸ k)⟩⟩
  · exact h

theorem QueueLaws.freeUnkept {s : State} (m : MemoryLaw s) (h : QueueLaws s) (is : List Nat) :
    QueueLaws (s.freeUnkept is) := by
  induction is generalizing s with
  | nil => exact h
  | cons i is ih => exact ih (memory_freeIfUnkept m i) (h.freeIfUnkept m id)

theorem QueueLaws.freeUnheld {s : State} (m : MemoryLaw s) (h : QueueLaws s) (is : List Nat) :
    QueueLaws (s.freeUnheld is) := by
  induction is generalizing s with
  | nil => exact h
  | cons i is ih =>
    refine ih (memory_freeIfUnheld m i) (s := s.freeIfUnheld i) ?_
    unfold State.freeIfUnheld
    split
    · exact (h.freeSeg m i).congr fun j => ⟨fun k => k.1, False.elim⟩
    · exact h

/-- The laws of the queue look at the state and the flag of the records, and at which segment is in render. -/
theorem QueueBut.alike {d : Nat → Prop} {s t : State} (h : QueueBut d s)
    (hg : ∀ j, SegAlike (s.acq.seg j) (t.acq.seg j)) (hq : t.rend.queue = s.rend.queue)
    (hr : t.rend.render.map (·.seg) = s.rend.render.map (·.seg)) : QueueBut d t := by
  have queued (j : Nat) : Queued t j ↔ Queued s j := by
    have := congrArg (fun o : Option Nat => o = some j) hr
    simp only [Option.map_eq_some_iff, eq_iff_iff] at this
    rw [Queued, Queued, hq, this]
  have seg (j : Nat) : (t.acq.seg j).state = (s.acq.seg j).state ∧ (t.acq.seg j).pending = (s.acq.seg j).pending := by
    have := hg j
    simp only [SegAlike, Prod.mk.injEq] at this
    exact ⟨this.1, this.2.2.2.1⟩
  refine ⟨hq ▸ h.depth, hq ▸ h.nodup, fun j hj => ?_, fun j hj => ?_, fun r ht => ?_, fun j hj => ?_⟩
  · rw [(seg j).1, (seg j).2]
    exact h.used j ((queued j).1 hj)
  · rw [queued]
    exact h.flagged j ((seg j).2 ▸ hj)
  · rw [ht] at hr
    obtain ⟨r', hr', he⟩ := Option.map_eq_some_iff.1 hr.symm
    rw [hq, show r.seg = r'.seg from he.symm]
    exact h.apart r' hr'
  · rw [queued]
    exact h.left j hj

/-- The flag of a segment that has left the queue is cleared. -/
theorem QueueBut.clearPending {d : Nat → Prop} {s : State} (m : MemoryLaw s) (h : QueueBut d s) {i : Nat} (hi : d i) :
    QueueBut (fun j => d j ∧ j ≠ i) (s.clearPending i) := by
  have hseg (j : Nat) : (s.setSeg i { s.seg i with pending := false }).acq.seg j
      = if j = i then { s.acq.seg i with pending := false } else s.acq.seg j := seg_setSeg m i _ j
  refine QueueBut.freeIfUnkept (memory_setSeg m i _) ⟨h.depth, h.nodup, fun j hj => ?_, fun j hj => ?_, h.apart,
    fun j hj => h.left j hj.1⟩ (fun k => k.2 rfl)
  · rw [hseg, if_neg]
    · exact h.used j hj
    · rintro rfl
      exact h.left j hi hj
  · rw [hseg] at hj
    split at hj
    · simp at hj
    · next hne => exact (h.flagged j hj).imp_right fun k => ⟨k, hne⟩

/-- The oldest leaves the queue, its flag still standing. -/
theorem QueueLaws.pop {s : State} (h : QueueLaws s) {i : Nat} {q : List Nat} (hq : s.rend.queue = i :: q) :
    QueueBut (· = i) { s with rend := { s.rend with queue := q } } := by
  have hn := h.nodup
  rw [hq, List.nodup_cons] at hn
  have queued (j : Nat) : Queued s j ↔ Queued { s with rend := { s.rend with queue := q } } j ∨ j = i := by
    simp only [Queued, hq, List.mem_cons]
    rw [or_assoc, or_comm]
  have left : ¬ Queued { s with rend := { s.rend with queue := q } } i := by
    rintro (k | ⟨r, hr, he⟩)
    · exact hn.1 k
    · exact h.apart r hr (by rw [he, hq]; simp)
  refine ⟨?_, hn.2, fun j hj => h.used j ((queued j).2 (.inl hj)), fun j hj => ?_, fun r hr hm => ?_,
    fun j hj => hj ▸ left⟩
  · have := h.depth
    rw [hq, List.length_cons] at this
    exact Nat.le_of_succ_le this
  · exact (queued j).1 ((h.flagged j hj).resolve_right id)
  · exact h.apart r hr (by rw [hq]; exact List.mem_cons_of_mem _ hm)

/-- The oldest leaves the queue, and its flag is cleared (R108). -/
theorem QueueLaws.skip {s : State} (m : MemoryLaw s) (h : QueueLaws s) {i : Nat} {q : List Nat}
    (hq : s.rend.queue = i :: q) : QueueLaws (State.clearPending { s with rend := { s.rend with queue := q } } i) :=
  (QueueBut.clearPending (s := { s with rend := { s.rend with queue := q } }) m (h.pop hq) rfl).congr fun _ =>
    ⟨fun k => k.2 k.1, False.elim⟩

theorem queue_freeIfUnkept_sublist (s : State) (i : Nat) : (s.freeIfUnkept i).rend.queue.Sublist s.rend.queue := by
  unfold State.freeIfUnkept
  split
  · exact List.filter_sublist
  · exact List.Sublist.refl _

theorem queue_clearPending_sublist (s : State) (i : Nat) : (s.clearPending i).rend.queue.Sublist s.rend.queue :=
  queue_freeIfUnkept_sublist _ i

/-- A full queue has lost its oldest (R110). -/
theorem QueueLaws.makeRoom {s : State} (m : MemoryLaw s) (h : QueueLaws s) :
    QueueLaws s.makeRoom ∧ s.makeRoom.rend.queue.length < 8 := by
  unfold State.makeRoom
  split
  · next hl => exact ⟨h, hl⟩
  · split
    · next i q hq =>
      refine ⟨h.skip m hq, ?_⟩
      have hd := h.depth
      rw [hq, List.length_cons] at hd
      exact lt_of_le_of_lt (queue_clearPending_sublist _ i).length_le hd
    · next hq => exact absurd (by rw [hq]; decide) ‹¬ s.rend.queue.length < Config.renderDepth›

theorem queued_clearPending (s : State) (i j : Nat) (h : Queued (s.clearPending i) j) : Queued s j := by
  unfold State.clearPending State.freeIfUnkept at h
  split at h
  · exact ((queued_freeSeg _ i j).1 h).1
  · exact h

theorem queued_makeRoom {s : State} {j : Nat} (h : Queued s.makeRoom j) : Queued s j := by
  unfold State.makeRoom at h
  split at h
  · exact h
  · split at h
    · next i q hq =>
      rcases queued_clearPending _ i j h with k | k
      · exact .inl (by rw [hq]; exact List.mem_cons_of_mem _ k)
      · exact .inr k
    · exact h

/-- A COMPLETE segment that does not wait joins the queue (R109). -/
theorem QueueLaws.enqueue {s : State} (m : MemoryLaw s) (h : QueueLaws s) {i : Nat} (hl : s.rend.queue.length < 8)
    (hc : (s.acq.seg i).state = .complete) (hi : ¬ Queued s i) : QueueLaws (s.enqueue i) := by
  have hseg (j : Nat) : (s.enqueue i).acq.seg j = if j = i then { s.acq.seg i with pending := true } else s.acq.seg j :=
    seg_setSeg (s := { s with rend := { s.rend with queue := s.rend.queue ++ [i] } }) m i _ j
  have queued (j : Nat) : Queued (s.enqueue i) j ↔ Queued s j ∨ j = i := by
    simp only [Queued, State.enqueue, State.setSeg_rend, List.mem_append, List.mem_singleton]
    exact or_right_comm
  refine ⟨?_, ?_, fun j hj => ?_, fun j hj => ?_, fun r hr hm => ?_, fun _ => False.elim⟩
  · simpa [State.enqueue] using hl
  · have hn : i ∉ s.rend.queue := fun k => hi (.inl k)
    simp only [State.enqueue, State.setSeg_rend, List.nodup_append]
    exact ⟨h.nodup, by simp, by simpa using fun a ha (e : a = i) => hn (e ▸ ha)⟩
  · rw [hseg]
    split
    · exact ⟨hc, rfl⟩
    · next hne => exact h.used j (((queued j).1 hj).resolve_right hne)
  · rw [hseg] at hj
    rw [queued]
    split at hj
    · next he => exact .inl (.inr he)
    · exact .inl (.inl ((h.flagged j hj).resolve_right id))
  · rcases List.mem_append.1 hm with k | k
    · exact h.apart r hr k
    · exact hi (.inr ⟨r, hr, by simpa using k⟩)

/-- A hand-off of a COMPLETE segment that is not in render (R109, R110). -/
theorem QueueLaws.handOff {s : State} (m : MemoryLaw s) (h : QueueLaws s) {i : Nat}
    (hc : (s.acq.seg i).state = .complete) (hr : ∀ r, s.rend.render = some r → r.seg ≠ i) :
    QueueLaws (s.handOff i) := by
  unfold State.handOff
  split
  · exact h
  · next hq =>
    rw [List.contains_iff_mem] at hq
    obtain ⟨hm, hl⟩ := h.makeRoom m
    refine hm.enqueue ((RecordsKept.makeRoom (shown := True) s).memory m) hl (by rw [seg_makeRoom m hq]; exact hc)
      fun k => ?_
    rcases queued_makeRoom k with k | ⟨r, hr', he⟩
    · exact hq k
    · exact hr r hr' he

theorem render_clearPending {s : State} (h : s.rend.render = none) (i : Nat) :
    (s.clearPending i).rend.render = none := by
  unfold State.clearPending State.freeIfUnkept
  split
  · simp [State.freeSeg, h]
  · exact h

/-- No render is in flight once it is abandoned (R115). -/
theorem render_abandonRender (s : State) : s.abandonRender.rend.render = none := by
  unfold State.abandonRender
  split
  · exact render_clearPending rfl _
  · next h => exact h

theorem QueueLaws.abandonRender {s : State} (m : MemoryLaw s) (h : QueueLaws s) : QueueLaws s.abandonRender := by
  unfold State.abandonRender
  split
  · next r hr =>
    have queued (j : Nat) : Queued s j ↔ Queued { s with rend := { s.rend with render := none } } j ∨ j = r.seg := by
      simp only [Queued, hr, Option.some.injEq, reduceCtorEq, false_and, exists_false, or_false, exists_eq_left', eq_comm]
    have popped : QueueBut (· = r.seg) { s with rend := { s.rend with render := none } } := by
      refine ⟨h.depth, h.nodup, fun j hj => h.used j ((queued j).2 (.inl hj)), fun j hj => ?_, fun _ k => by simp at k, ?_⟩
      · exact (queued j).1 ((h.flagged j hj).resolve_right id)
      · rintro j rfl (k | ⟨_, k, -⟩)
        · exact h.apart r hr k
        · simp at k
    exact (QueueBut.clearPending (s := { s with rend := { s.rend with render := none } }) m popped rfl).congr fun _ =>
      ⟨fun k => k.2 k.1, False.elim⟩
  · exact h

/-- Every index leaves the queue, and its flag is cleared (R111). -/
theorem QueueLaws.purge {s : State} (m : MemoryLaw s) (h : QueueLaws s) : QueueLaws s.purge := by
  have cleared {l : List Nat} {d : Nat → Prop} {t : State} (mt : MemoryLaw t) (k : QueueBut d t)
      (hd : ∀ j, d j ↔ j ∈ l) (hn : l.Nodup) : QueueLaws (l.foldl State.clearPending t) := by
    induction l generalizing d t with
    | nil => exact k.congr fun j => by simpa using hd j
    | cons i l ih =>
      obtain ⟨hi, hl⟩ := List.nodup_cons.1 hn
      refine ih (memory_clearPending mt i) (k.clearPending mt ((hd i).2 (by simp))) (fun j => ?_) hl
      rw [hd, List.mem_cons]
      constructor
      · rintro ⟨e | k, hne⟩
        · exact absurd e hne
        · exact k
      · exact fun k => ⟨.inr k, fun e => hi (e ▸ k)⟩
  have popped : QueueBut (· ∈ s.rend.queue) { s with rend := { s.rend with queue := [] } } := by
    refine ⟨by simp, List.nodup_nil, fun j hj => h.used j ?_, fun j hj => ?_, fun _ _ => by simp, ?_⟩
    · exact hj.elim (by simp) .inr
    · exact ((h.flagged j hj).resolve_right id).symm.imp_left .inr
    · rintro j hj (k | ⟨r, hr, rfl⟩)
      · simp at k
      · exact h.apart r hr hj
  have mf : MemoryLaw (s.rend.queue.foldl State.clearPending { s with rend := { s.rend with queue := [] } }) :=
    (RecordsKept.foldl (shown := True) RecordsKept.clearPending _ _).memory m
  exact (cleared (t := { s with rend := { s.rend with queue := [] } }) m popped (fun _ => Iff.rfl)
    h.nodup).abandonRender mf

/-- The idle renderer takes a segment, and nothing waits where it takes none (R112). -/
theorem QueueLaws.takeRender {s : State} (m : MemoryLaw s) (h : QueueLaws s) (hr : s.rend.render = none)
    (hd : s.rend.decayDue = false) {n : Nat} (hn : s.rend.queue.length ≤ n) : RenderQueueLaw (s.takeRender n) := by
  rw [renderQueueLaw_iff]
  induction n generalizing s with
  | zero => exact ⟨h, fun _ => ⟨List.length_eq_zero_iff.1 (Nat.le_zero.1 hn), hd⟩⟩
  | succ n ih =>
    unfold State.takeRender
    split
    · next hq => exact ⟨h, fun _ => ⟨hq, hd⟩⟩
    · next i q hq =>
      have popped := h.pop hq
      dsimp only
      split
      · refine ih (memory_clearPending (s := { s with rend := { s.rend with queue := q } }) m i)
          (h.skip m hq)
          (render_clearPending (s := { s with rend := { s.rend with queue := q } }) hr i) ?_ ?_
        · unfold State.clearPending State.freeIfUnkept
          split <;> exact hd
        · rw [hq, List.length_cons] at hn
          exact (queue_clearPending_sublist _ i).length_le.trans (Nat.le_of_succ_le_succ hn)
      · have hn := h.nodup
        rw [hq, List.nodup_cons] at hn
        have queued (j : Nat) : Queued { s with rend := { s.rend with queue := q, render := some (s.formRender i) } } j
            ↔ Queued s j := by
          simp only [Queued, hq, hr, List.mem_cons, Option.some.injEq, exists_eq_left', State.formRender, reduceCtorEq,
            false_and, exists_false, or_false]
          rw [or_comm, eq_comm]
        refine ⟨⟨popped.depth, popped.nodup, fun j hj => h.used j ((queued j).1 hj), fun j hj =>
          (h.flagged j hj).imp_left (queued j).2, fun r hr' => ?_, fun _ => False.elim⟩, fun k => by simp at k⟩
        obtain rfl : s.formRender i = r := Option.some.inj hr'
        exact hn.1

/-- The renderer goes on: with the laws of the queue, all of R107 and R108 holds. -/
theorem QueueLaws.resume {s : State} (m : MemoryLaw s) (h : QueueLaws s) : RenderQueueLaw s.resume := by
  unfold State.resume
  split
  · next r hr => exact (renderQueueLaw_iff s).2 ⟨h, fun k => by simp [hr] at k⟩
  · next hr =>
    exact QueueLaws.takeRender ((RecordsKept.consumeDecay (shown := True) s).memory m) (h.alike (fun _ => rfl) rfl rfl) hr
      rfl le_rfl

end Sys2Proof.Machine
end

section
/-!
SUPPORT. The acts of the acquisition controller, the renderer and a change, one lemma an act over the relation `StoreKept`:
they keep the memories' form and the laws of the current segment, the snapshot table, the counted holds, what keeps a
segment, and the render queue.
-/

namespace Sys2Proof.Machine

/-! ## One record replaced -/

/-- Every segment that is FILLING lies below K (R85, R90). -/
def FillsLow (s : State) : Prop := ∀ i, (s.acq.seg i).state = .filling → i < s.slots

theorem FillsLow.of_inner {s t : State} (h : FillsLow s) (hi : Inner s t)
    (hf : ∀ i, (t.acq.seg i).state = .filling → (s.acq.seg i).state = .filling) : FillsLow t := fun i k => by
  rw [slots_of_inner hi]
  exact h i (hf i k)

/-- One record is replaced: what keeps the others stays. -/
theorem keptBut_put {d : Nat → Prop} {s t : State} (m : MemoryLaw s) (hi : Inner s t) {i : Nat} {g : Seg}
    (hsegs : t.acq.segs = Cells.put Seg.blank s.acq.segs i g) (hl : t.acq.seqList = s.acq.seqList)
    (h : KeptBut d s) (hg : ¬ d i → g.state = .complete → Kept t i) : KeptBut d t := by
  intro j hd hj
  have hseg := seg_put m.1 hsegs
  by_cases hji : j = i
  · subst hji
    rw [hseg, if_pos rfl] at hj
    exact hg hd hj
  · rw [hseg, if_neg hji] at hj
    have hsame : t.acq.seg j = s.acq.seg j := by rw [hseg, if_neg hji]
    exact (h j hd hj).of_eq (slots_of_inner hi) (by rw [hsame]) (by rw [hsame]; exact id) (by rw [hsame]; exact id)
      (hl ▸ id)

/-- One record is replaced beside the renderer: the laws of the queue stand where the new one fits its place. -/
theorem QueueLaws.put {s t : State} (m : MemoryLaw s) (h : QueueLaws s) {i : Nat} {g : Seg}
    (hsegs : t.acq.segs = Cells.put Seg.blank s.acq.segs i g) (hr : t.rend = s.rend)
    (hu : Queued s i → g.state = .complete ∧ g.pending = true) (hp : g.pending = true → Queued s i) : QueueLaws t := by
  have hseg := seg_put m.1 hsegs
  have queued (j : Nat) : Queued t j ↔ Queued s j := by rw [Queued, Queued, hr]
  refine ⟨hr ▸ h.depth, hr ▸ h.nodup, fun j hj => ?_, fun j hj => ?_, hr ▸ h.apart, fun _ => False.elim⟩
  · rw [queued] at hj
    rw [hseg]
    split
    · next hji => exact hu (hji ▸ hj)
    · exact h.used j hj
  · rw [hseg] at hj
    rw [queued]
    split at hj
    · next hji => exact .inl (hji ▸ hp hj)
    · exact h.flagged j hj

/-- A segment that becomes current is no exception any longer where it lies below K or something keeps it already. -/
theorem KeptBut.setCurrent {d : Nat → Prop} {s : State} {i : Nat} (m : MemoryLaw s) (h : KeptBut (fun j => d j ∨ j = i) s)
    (hi : i < s.slots ∨ Kept s i) : KeptBut d (s.setSeg i { s.seg i with current := true }) := by
  intro j hd hj
  by_cases hji : j = i
  · subst hji
    have hseg := seg_setSeg m j { s.seg j with current := true } j
    rw [if_pos rfl] at hseg
    rcases hi with h | h
    · exact .inr ⟨h, .inl (by rw [hseg])⟩
    · exact h.of_eq rfl (by rw [hseg]; rfl) (by rw [hseg]; exact fun _ => rfl) (by rw [hseg]; exact id) id
  · exact keptBut_setSeg m h i _ j (fun k => k.elim (fun k => k.elim hd hji) hji) hj

/-- A segment that becomes current below K, or that something keeps already, is no exception any longer; the one that was
current is freed where nothing else keeps it (R87, R97, R105). -/
theorem KeptBut.makeCurrent {s : State} {i : Nat} (m : MemoryLaw s) (h : KeptBut (· = i) s) (hi : i < s.slots ∨ Kept s i) :
    AllKept (s.makeCurrent i) := by
  unfold State.makeCurrent
  split
  · next j hj =>
    split
    · next hji =>
      subst hji
      intro k _ hk
      by_cases hkj : k = j
      · exact hkj ▸ hi.elim (fun hlt => .inr ⟨hlt, .inl (Acq.current_of_currentIdx m.1 hj)⟩) id
      · exact h k hkj hk
    · next hji =>
      have m1 := memory_setSeg m j { s.seg j with current := false }
      have hsame : (s.setSeg j { s.seg j with current := false }).acq.seg i = s.acq.seg i := by
        rw [seg_setSeg m, if_neg (Ne.symm hji)]
      have k1 : KeptBut (fun k => k = j ∨ k = i) (s.setSeg j { s.seg j with current := false }) :=
        (keptBut_setSeg m h j _).mono fun _ => Or.symm
      have k2 := k1.setCurrent m1 (hi.imp id fun k => k.of_eq rfl (by rw [hsame]) (by rw [hsame]; exact id)
        (by rw [hsame]; exact id) id)
      exact (keptBut_freeIfUnkept (memory_setSeg m1 _ _) k2 j).mono fun k hk => hk.2 hk.1
  · exact KeptBut.setCurrent m (h.mono fun j hj => .inr hj) hi

theorem QueueLaws.setCurrent {s : State} (m : MemoryLaw s) (h : QueueLaws s) (i : Nat) (b : Bool) :
    QueueLaws (s.setSeg i { s.seg i with current := b }) :=
  h.put m rfl rfl (h.used i) fun hp => (h.flagged i hp).resolve_right id

theorem QueueLaws.makeCurrent {s : State} (m : MemoryLaw s) (h : QueueLaws s) (i : Nat) : QueueLaws (s.makeCurrent i) := by
  unfold State.makeCurrent
  split
  · next j _ =>
    split
    · exact h
    · have m1 := memory_setSeg m j { s.seg j with current := false }
      exact ((h.setCurrent m j false).setCurrent m1 i true).freeIfUnkept (memory_setSeg m1 _ _) id
  · exact h.setCurrent m i true

theorem KeptBut.abandonRender {d : Nat → Prop} {s : State} (m : MemoryLaw s) (h : KeptBut d s) :
    KeptBut d s.abandonRender := by
  unfold State.abandonRender
  split
  · next r _ => exact keptBut_clearPending (s := { s with rend := { s.rend with render := none } }) m h r.seg
  · exact h

theorem KeptBut.takeRender {d : Nat → Prop} {s : State} (m : MemoryLaw s) (h : KeptBut d s) (n : Nat) :
    KeptBut d (s.takeRender n) := by
  induction n generalizing s with
  | zero => exact h
  | succ n ih =>
    unfold State.takeRender
    split
    · exact h
    · next i q _ =>
      dsimp only
      split
      · exact ih (memory_clearPending (s := { s with rend := { s.rend with queue := q } }) m i)
          (keptBut_clearPending (s := { s with rend := { s.rend with queue := q } }) m h i)
      · exact h

theorem KeptBut.abandonFilling {s : State} (m : MemoryLaw s) (h : AllKept s) : AllKept s.abandonFilling := by
  unfold State.abandonFilling
  split
  · next i _ => exact (keptBut_freeSeg m h i).mono fun _ h => h.1
  · exact h

theorem KeptBut.purge {s : State} (m : MemoryLaw s) (h : AllKept s) : AllKept s.purge := by
  have cleared (l : List Nat) {t : State} (mt : MemoryLaw t) (kt : AllKept t) :
      MemoryLaw (l.foldl State.clearPending t) ∧ AllKept (l.foldl State.clearPending t) := by
    induction l generalizing t with
    | nil => exact ⟨mt, kt⟩
    | cons i l ih => exact ih (memory_clearPending mt i) (keptBut_clearPending mt kt i)
  obtain ⟨m', k'⟩ := cleared s.rend.queue (t := { s with rend := { s.rend with queue := [] } }) m h
  exact k'.abandonRender m'

/-! ## The relation -/

/-- An operation that keeps the laws of the records, what keeps a segment, and the laws of the queue. `calm` is what the
laws of the queue may rest on besides. -/
structure StoreKept (shown calm : Prop) (s t : State) : Prop extends RecordsKept shown s t where
  low : MemoryLaw s → FillsLow s → FillsLow t
  kept : MemoryLaw s → FillsLow s → AllKept s → AllKept t
  queue : calm → MemoryLaw s → CurrentLaw s.acq → QueueLaws s → QueueLaws t

namespace StoreKept

variable {shown calm : Prop}

theorem refl (s : State) : StoreKept shown calm s s := ⟨.refl s, fun _ => id, fun _ _ => id, fun _ _ _ => id⟩

theorem trans {s t u : State} (h : StoreKept shown calm s t) (k : StoreKept shown calm t u) : StoreKept shown calm s u where
  toRecordsKept := h.toRecordsKept.trans k.toRecordsKept
  low := fun m f => k.low (h.memory m) (h.low m f)
  kept := fun m f a => k.kept (h.memory m) (h.low m f) (h.kept m f a)
  queue := fun p m c q => k.queue p (h.memory m) (h.current m c) (h.queue p m c q)

theorem ite {s t u : State} {c : Prop} [Decidable c] (h : StoreKept shown calm s t) (k : StoreKept shown calm s u) :
    StoreKept shown calm s (if c then t else u) := by split <;> assumption

theorem foldl {α : Type} {f : State → α → State} (h : ∀ s a, StoreKept shown calm s (f s a)) (l : List α) (s : State) :
    StoreKept shown calm s (l.foldl f s) := by
  induction l generalizing s with
  | nil => exact refl s
  | cons a l ih => exact (h s a).trans (ih _)

/-- Everything but what `Inner` says may use the memories' form. -/
theorem of_memory {s t : State} (hi : Inner s t) (k : MemoryLaw s → StoreKept shown calm s t) : StoreKept shown calm s t :=
  ⟨.of_memory hi fun m => (k m).toRecordsKept, fun m => (k m).low m, fun m => (k m).kept m, fun p m => (k m).queue p m⟩

/-- The law of the snapshot table may use the premises under which it is kept. -/
theorem of_premises {s t : State} (h : StoreKept False calm s t)
    (k : shown → MemoryLaw s → CurrentLaw s.acq → RecordsKept shown s t) : StoreKept shown calm s t :=
  ⟨.of_premises h.toRecordsKept k, h.low, h.kept, h.queue⟩

/-- The laws of the queue may use the premises under which they are kept. -/
theorem of_queue {s t : State} (h : StoreKept shown False s t)
    (k : calm → MemoryLaw s → CurrentLaw s.acq → QueueLaws s → StoreKept shown True s t) : StoreKept shown calm s t :=
  ⟨h.toRecordsKept, h.low, h.kept, fun p m c q => (k p m c q).queue trivial m c q⟩

/-- The records agree in what keeps a segment, and the renderer has the same segments. -/
theorem alike {s t : State} (h : RecordsKept shown s t) (hg : MemoryLaw s → ∀ j, SegAlike (s.acq.seg j) (t.acq.seg j))
    (hl : t.acq.seqList = s.acq.seqList)
    (hr : (t.rend.queue, t.rend.render.map (·.seg)) = (s.rend.queue, s.rend.render.map (·.seg))) :
    StoreKept shown calm s t := by
  obtain ⟨hq, hr⟩ := Prod.mk.inj hr
  refine ⟨h, fun m f => f.of_inner h.inner fun j => ?_, fun m _ k => k.alike (hg m) (slots_of_inner h.inner) hl,
    fun _ m _ k => k.alike (hg m) hq hr⟩
  have := hg m j
  simp only [SegAlike, Prod.mk.injEq] at this
  rw [this.1]
  exact id

/-- What is done beside the segment store and the renderer. -/
theorem regs {s t : State} (hi : Inner s t)
    (h : (t.acq.segs, t.acq.snaps, t.acq.newest, t.acq.samples, t.acq.seqList, t.rend)
      = (s.acq.segs, s.acq.snaps, s.acq.newest, s.acq.samples, s.acq.seqList, s.rend)) : StoreKept shown calm s t := by
  simp only [Prod.mk.injEq] at h
  obtain ⟨h1, h2, h3, h4, h5, h6⟩ := h
  have hseg (j : Nat) : t.acq.seg j = s.acq.seg j := by rw [Acq.seg, h1]; rfl
  exact alike (.regs hi (by rw [h1, h2, h3, h4, h6])) (fun _ j => by rw [hseg]; rfl) h5 (by rw [h6])

/-- An operation that takes no filling record up, and keeps the rest for itself. -/
theorem of_filling {s t : State} (h : RecordsKept shown s t) (hf : FillKept s t)
    (hk : MemoryLaw s → AllKept s → AllKept t) (hq : MemoryLaw s → QueueLaws s → QueueLaws t) : StoreKept shown calm s t :=
  ⟨h, fun m f => f.of_inner h.inner fun i => (hf.acq.seg m.1 i).1.1, fun m _ => hk m, fun _ m _ => hq m⟩

/-! ## Records -/

theorem freeIfUnkept (s : State) (i : Nat) : StoreKept shown calm s (s.freeIfUnkept i) :=
  of_filling (.freeIfUnkept s i) (fillKept_freeIfUnkept s i)
    (fun m k => (keptBut_freeIfUnkept m k i).mono fun _ h => h.1) fun m q => q.freeIfUnkept m id

theorem freeUnkept (s : State) (is : List Nat) : StoreKept shown calm s (s.freeUnkept is) := foldl freeIfUnkept is s

theorem freeUnheld (s : State) (is : List Nat) : StoreKept shown calm s (s.freeUnheld is) :=
  of_filling (.freeUnheld s is) (fillKept_freeUnheld s is) (fun m k => keptBut_freeUnheld m k is)
    fun m q => q.freeUnheld m is

/-- A used segment is freed, one without a hold or one that is FILLING. -/
theorem freeSeg (s : State) (i : Nat) (hu : MemoryLaw s → CurrentLaw s.acq → (s.acq.seg i).state ≠ .free)
    (hh : MemoryLaw s → (s.acq.seg i).state = .filling ∨ (s.acq.seg i).holdsA + (s.acq.seg i).holdsB = 0) :
    StoreKept shown calm s (s.freeSeg i) := by
  refine ⟨.freeSeg s i hu hh, fun m f => f.of_inner (inner_freeSeg s i) fun j => ?_,
    fun m _ k => (keptBut_freeSeg m k i).mono fun _ h => h.1,
    fun _ m _ q => (q.freeSeg m i).congr fun j => ⟨fun h => h.1, False.elim⟩⟩
  rw [seg_freeSeg m]
  split
  · exact fun h => by simp [Seg.blank] at h
  · exact id

theorem abandonFilling (s : State) : StoreKept shown calm s s.abandonFilling := by
  unfold State.abandonFilling
  split
  · next i hi =>
    have hf (m : MemoryLaw s) : (s.acq.seg i).state = .filling := Acq.filling_of_fillingIdx m.1 hi
    exact (freeSeg s i (fun m _ => by simp [hf m]) fun m => .inl (hf m)).trans (regs (.update _ _ _ _ _ _) rfl)
  · exact regs (.update _ _ _ _ _ _) rfl

/-- A COMPLETE segment below K becomes current, or one that is kept already. -/
theorem makeCurrent (s : State) {i : Nat} (hi : MemoryLaw s → (s.acq.seg i).state = .complete) :
    StoreKept shown calm s (s.makeCurrent i) :=
  of_filling (.makeCurrent s hi) (fillKept_makeCurrent s i)
    (fun m k => KeptBut.makeCurrent m (k.mono fun _ => False.elim) (.inr (k i id (hi m)))) fun m q => q.makeCurrent m i

/-! ## Renderer -/

theorem consumeDecay (s : State) : StoreKept shown calm s s.consumeDecay :=
  alike (.consumeDecay s) (fun _ _ => rfl) rfl rfl

theorem makeRoom (s : State) : StoreKept shown calm s s.makeRoom := by
  refine of_filling (.makeRoom s) (fillKept_makeRoom s) (fun m k => ?_) fun m q => (q.makeRoom m).1
  unfold State.makeRoom
  split
  · exact k
  · split
    · next i q _ => exact keptBut_clearPending (s := { s with rend := { s.rend with queue := q } }) m k i
    · exact k

/-- A COMPLETE segment that is not in render is handed to the renderer (R109, R110). -/
theorem handOff (s : State) (i : Nat) (hi : shown → MemoryLaw s → CurrentLaw s.acq → (s.acq.seg i).state ≠ .free)
    (hq : calm → MemoryLaw s → CurrentLaw s.acq →
      (s.acq.seg i).state = .complete ∧ ∀ r, s.rend.render = some r → r.seg ≠ i) :
    StoreKept shown calm s (s.handOff i) where
  toRecordsKept := .handOff s i hi
  low := fun m f => f.of_inner (inner_handOff s i) fun j => ((fillKept_handOff s i).acq.seg m.1 j).1.1
  kept := fun m _ k => by
    unfold State.handOff
    split
    · exact k
    · have mr := (RecordsKept.makeRoom (shown := True) s).memory m
      have kr : AllKept s.makeRoom := (makeRoom (shown := True) (calm := True) s).kept m ‹_› k
      exact keptBut_setSeg_self (s := { s.makeRoom with rend := _ }) mr kr id rfl id fun _ => rfl
  queue := fun p m c q => q.handOff m (hq p m c).1 (hq p m c).2

theorem abandonRender (s : State) : StoreKept shown calm s s.abandonRender :=
  of_filling (.abandonRender s) (fillKept_abandonRender s) (fun m k => k.abandonRender m) fun m q => q.abandonRender m

theorem clearRasters (s : State) : StoreKept shown calm s s.clearRasters :=
  (alike (.beside (.update _ _ _ _ _ _) (by rfl) id fun _ => rfl) (fun _ _ => rfl) (by rfl) (by rfl)).trans
    (abandonRender _)

theorem purge (s : State) : StoreKept shown calm s s.purge :=
  of_filling (.purge s) (fillKept_purge s) (fun m k => k.purge m) fun m q => q.purge m

theorem resume (s : State) : StoreKept shown calm s s.resume := by
  refine of_filling ?_ (fillKept_resume s) (fun m k => ?_) fun m q => ((renderQueueLaw_iff _).1 (q.resume m)).1
  · unfold State.resume
    split
    · exact .refl s
    · exact (RecordsKept.consumeDecay s).trans (.takeRender _ _)
  · unfold State.resume
    split
    · exact k
    · exact KeptBut.takeRender (s := s.consumeDecay) ((RecordsKept.consumeDecay (shown := True) s).memory m) k _

end StoreKept

/-! ## Arming (R58, R84, R89 to R93) -/

/-- A remembered or automatic trigger marks the filling segment alone. -/
theorem segAlike_takeTrigger {s : State} (m : MemoryLaw s) (auto : Bool) (j : Nat) :
    SegAlike (s.acq.seg j) ((s.takeTrigger auto).acq.seg j) := by
  unfold State.takeTrigger
  dsimp only
  split
  · next i _ =>
    have hseg (g : Seg) := seg_setSeg (s := { s with
      trig := s.trig.taken (s.fieldVal 49) (s.fieldVal fidAuxSource)
      acq := { s.acq with state := .posttrig, postCount := 0 } }) m i g j
    rw [hseg]
    split
    · next h =>
      subst h
      rfl
    · rfl
  · rfl

namespace StoreKept

variable {shown calm : Prop}

theorem takeTrigger (s : State) (auto : Bool) : StoreKept shown calm s (s.takeTrigger auto) :=
  alike (.takeTrigger s auto) (fun m => segAlike_takeTrigger m auto) (by unfold State.takeTrigger; dsimp only; split <;> rfl)
    (by unfold State.takeTrigger; dsimp only; split <;> rfl)

theorem passToReady (s : State) : StoreKept shown calm s s.passToReady :=
  ite ((regs (.update _ _ _ _ _ _) (by rfl)).trans (takeTrigger _ _)) (regs (.update _ _ _ _ _ _) rfl)

/-- One record is replaced, beside the renderer and the sequence list. -/
theorem put {s t : State} (h : RecordsKept shown s t) {i : Nat} {g : Seg}
    (hsegs : t.acq.segs = Cells.put Seg.blank s.acq.segs i g)
    (hl : (t.acq.seqList, t.rend) = (s.acq.seqList, s.rend))
    (hf : MemoryLaw s → g.state = .filling → i < s.slots)
    (hk : MemoryLaw s → g.state = .complete → AllKept s → Kept t i)
    (hq : MemoryLaw s → QueueLaws s → (Queued s i → g.state = .complete ∧ g.pending = true)
      ∧ (g.pending = true → Queued s i)) : StoreKept shown calm s t := by
  obtain ⟨hl, hr⟩ := Prod.mk.inj hl
  refine ⟨h, fun m f j hj => ?_, fun m _ k => keptBut_put m h.inner hsegs hl k fun _ hc => hk m hc k,
    fun _ m _ q => q.put m hsegs hr (hq m q).1 (hq m q).2⟩
  rw [slots_of_inner h.inner]
  rw [seg_put m.1 hsegs] at hj
  split at hj
  · next hji => exact hji ▸ hf m hj
  · exact f j hj

/-- A FREE record below K becomes that of the filling segment (R88, R93). -/
theorem enterFilling {s : State} {i e : Nat} {snaps : List Snap} (hi : MemoryLaw s → (s.acq.seg i).state = .free)
    (hlt : MemoryLaw s → i < s.slots) (h : s.obtain = some (e, snaps)) :
    StoreKept shown calm s (s.enterFilling i e snaps) := by
  have entered : StoreKept shown calm s (s.entered i e snaps) := by
    refine put (.entered hi h) rfl rfl (fun m _ => hlt m) (fun _ hc => by cases hc) fun m q => ⟨fun k => ?_, fun k => ?_⟩
    · have := (q.used i k).1
      rw [hi m] at this
      cases this
    · cases k
  rw [enterFilling_eq]
  exact ite (entered.trans (passToReady _)) entered

theorem reuseCurrent (s : State) : StoreKept shown calm s s.reuseCurrent := by
  unfold State.reuseCurrent
  split
  · exact refl s
  · split
    · next i _ hi =>
      split
      · next hr =>
        simp only [State.reusable, Seg.holds, State.seg_eq, Bool.and_eq_true, decide_eq_true_eq] at hr
        exact freeSeg s i (fun m c => by rw [c.2 i (Acq.current_of_currentIdx m.1 hi)]; simp)
          fun _ => .inr (of_decide_eq_true hr.1.2)
      · exact refl s
    · exact refl s

theorem slotChoice (s : State) : StoreKept shown calm s s.slotChoice := by
  unfold State.slotChoice
  dsimp only
  split
  · next i e snaps hi ho =>
    exact (reuseCurrent s).trans (enterFilling (fun m => ((slotTaken_iff m.1 i).2 hi).2.1.1)
      (fun m => ((slotTaken_iff m.1 i).2 hi).1) ho)
  · exact (reuseCurrent s).trans (regs (.update _ _ _ _ _ _) rfl)

theorem arm (s : State) : StoreKept shown calm s s.arm := ite (slotChoice s) (regs (.update _ _ _ _ _ _) rfl)

theorem retryWait (s : State) : StoreKept shown calm s s.retryWait := ite (arm s) (refl s)

theorem tellSettled (s : State) : StoreKept shown calm s s.tellSettled := ite (arm s) (refl s)

theorem finishAct (s : State) : StoreKept shown calm s s.finishAct := (resume s).trans (retryWait _)

/-- The filling segment is marked in what does not keep a segment. -/
theorem fillMark (s : State) {i : Nat} (hi : MemoryLaw s → (s.acq.seg i).state = .filling) {g : Seg}
    (hg : g = { s.acq.seg i with time := g.time, wrap := g.wrap, fault := g.fault }) :
    StoreKept shown calm s (s.setSeg i g) := by
  refine alike (.mark s i (by rw [hg]) (by rw [hg]) (by rw [hg]) (fun h => by rw [hg] at h; exact h) fun _ m _ hb =>
    absurd (hi m) (by simp [hb, Seg.blank])) (fun m j => ?_) rfl rfl
  rw [seg_setSeg m]
  split
  · next hj => rw [hj, SegAlike, hg]
  · rfl

theorem flagFault (s : State) (n : Nat) : StoreKept shown calm s (s.flagFault n) := by
  unfold State.flagFault
  split
  · next i hi =>
    have hf (m : MemoryLaw s) : (s.acq.seg i).state = .filling := Acq.filling_of_fillingIdx m.1 hi
    exact ite (fillMark s hf rfl) (refl s)
  · exact refl s

/-! ## Run modes (R82, R83, R98 to R101) -/

theorem post (s : State) (n : Notice) : StoreKept shown calm s (s.post n) := regs (.post s n) rfl

theorem setMode (s : State) (m : RunMode) : StoreKept shown calm s (s.setMode m) := regs (inner_setMode s m) rfl

theorem enterStop (s : State) : StoreKept shown calm s s.enterStop :=
  (abandonFilling s).trans (regs ((Inner.update _ _ _ _ _ _).trans (inner_setMode _ _)) rfl)

theorem clearChanged (s : State) : StoreKept shown calm s s.clearChanged := regs (inner_clearChanged s) rfl

end StoreKept

/-- The sequence list is emptied: its members are kept by what else keeps them. -/
theorem KeptBut.emptied {s : State} (h : AllKept s) (n k : Nat) :
    KeptBut (fun i => i ∈ s.acq.seqList ∧ (s.acq.seg i).holds = 0)
      { s with acq := { s.acq with seqList := [], seqCount := n, nextSlot := k } } := by
  intro i hi hc
  rcases h i id hc with hh | ⟨hs, hk⟩
  · exact .inl hh
  · by_cases hm : i ∈ s.acq.seqList
    · exact .inl (Nat.pos_of_ne_zero fun h0 => hi ⟨hm, h0⟩)
    · exact .inr ⟨hs, hk.imp_right fun k => .inl (k.resolve_right hm)⟩

theorem seqList_freeUnheld_subset (s : State) (is : List Nat) : (s.freeUnheld is).acq.seqList ⊆ s.acq.seqList := by
  induction is generalizing s with
  | nil => exact fun _ h => h
  | cons i is ih =>
    rw [freeUnheld_cons]
    refine List.Subset.trans (ih _) ?_
    unfold State.freeIfUnheld
    split
    · exact fun _ h => (List.mem_filter.1 h).1
    · exact fun _ h => h

/-- Once every COMPLETE member without a hold is freed, the sequence list may be emptied (R13, R100). -/
theorem KeptBut.begunAgain {s : State} (m : MemoryLaw s) (h : AllKept s) {is : List Nat}
    (hi : ∀ i ∈ s.acq.seqList, (s.acq.seg i).state = .complete → i ∈ is) :
    AllKept { s.freeUnheld is with acq := { (s.freeUnheld is).acq with seqList := [], seqCount := 0, nextSlot := 0 } } := by
  refine fun i _ hc => (keptBut_freeUnheld m h is).emptied 0 0 i (fun ⟨hm, h0⟩ => ?_) hc
  have hseg := seg_freeUnheld m is i
  change ((s.freeUnheld is).acq.seg i).state = .complete at hc
  split at hseg
  · rw [hseg] at hc
    simp [Seg.blank] at hc
  · next hn =>
    rw [hseg] at hc h0
    exact hn ⟨hi i (seqList_freeUnheld_subset s is hm) hc, hc, h0⟩

namespace StoreKept

variable {shown calm : Prop}

theorem emptySequence (s : State) : StoreKept shown calm s s.emptySequence := by
  have listless : RecordsKept shown s { s with acq := { s.acq with seqList := [] } } := .regs (.update _ _ _ _ _ _) rfl
  refine of_filling (listless.trans (.freeUnkept _ _)) (fillKept_emptySequence s) (fun m k => ?_)
    fun m q => QueueLaws.freeUnkept (listless.memory m) (q.alike (fun _ => rfl) rfl rfl) _
  have emptied : KeptBut (· ∈ s.acq.seqList) { s with acq := { s.acq with seqList := [] } } := fun i hi hc => by
    rcases k i id hc with h | ⟨hs, h⟩
    · exact .inl h
    · exact .inr ⟨hs, h.imp_right fun k => .inl (k.resolve_right hi)⟩
  exact (keptBut_freeUnkept (listless.memory m) emptied _).mono fun _ h => h.2 h.1

theorem startSequence (s : State) : StoreKept shown calm s s.startSequence :=
  of_filling ((RecordsKept.freeUnheld s _).trans (.regs (.update _ _ _ _ _ _) rfl)) (fillKept_startSequence s)
    (fun m k => k.begunAgain m fun i _ hc => List.mem_map.2 ⟨_, Acq.mem_segs (by rw [hc]; simp), rfl⟩)
    fun m q => (q.freeUnheld m s.acq.usedIdx).alike (fun _ => rfl) rfl rfl

theorem toActive (s : State) (m : RunMode) : StoreKept shown calm s (s.toActive m) :=
  ite (((((clearChanged s).trans (setMode _ m)).trans (emptySequence _)).trans (resume _)).trans (arm _))
    (((setMode s m).trans (emptySequence _)).trans (finishAct _))

theorem toSequence (s : State) : StoreKept shown calm s s.toSequence :=
  (((((ite (c := s.acq.mode = .stop) (refl s) (enterStop s)).trans (clearChanged _)).trans
    (setMode _ .sequence)).trans (startSequence _)).trans (resume _)).trans (arm _)

theorem runControl (s : State) (m : RunMode) : StoreKept shown calm s (s.runControl m) := by
  unfold State.runControl
  split
  · exact refl s
  · cases m with
    | stop => exact enterStop s
    | run => exact toActive s _
    | single => exact toActive s _
    | sequence => exact toSequence s

theorem force (s : State) : StoreKept shown calm s s.force := by
  unfold State.force
  split
  · exact regs (.update _ _ _ _ _ _) rfl
  · exact takeTrigger s _
  · exact refl s

/-! ## Completion and samples (R94 to R99) -/

/-- The filling segment becomes COMPLETE and current (R97). -/
theorem completeSeg {s : State} {i : Nat} (hi : MemoryLaw s → (s.acq.seg i).state = .filling) :
    StoreKept shown calm s (s.completeSeg i) := by
  have hc (m : MemoryLaw s) : ((s.completed i).acq.seg i).state = .complete := by rw [seg_completed m, if_pos rfl]; rfl
  refine .of_memory (inner_completeSeg s i) fun m => ?_
  have hr := RecordsKept.completed (shown := shown) hi
  refine ⟨hr.trans (.makeCurrent _ fun _ => hc m), fun _ f => ?_, fun _ f k => ?_, fun _ _ _ q => ?_⟩
  · refine FillsLow.of_inner (s := s.completed i) (f.of_inner hr.inner fun j hj => ?_) (inner_makeCurrent _ i)
      fun j => ((fillKept_makeCurrent _ i).acq.seg (hr.memory m).1 j).1.1
    rw [seg_completed m] at hj
    split at hj
    · cases hj
    · exact hj
  · refine KeptBut.makeCurrent (hr.memory m) (keptBut_put m hr.inner rfl rfl (k.mono fun _ => False.elim)
      fun h => absurd rfl h) (.inl ?_)
    exact (slots_of_inner hr.inner).symm ▸ f i (hi m)
  · have hn : ¬ Queued s i := fun h => by
      have := (q.used i h).1
      rw [hi m] at this
      cases this
    exact (q.put m (t := s.completed i) rfl rfl (fun h => absurd h hn)
      fun h => (q.flagged i h).resolve_right id).makeCurrent (hr.memory m) i

theorem endRun (s : State) : StoreKept shown calm s s.endRun :=
  regs ((Inner.update _ _ _ _ _ _).trans (inner_setMode _ _)) rfl

theorem handCompleted (s : State) (i : Nat)
    (hi : shown → MemoryLaw s → CurrentLaw s.acq → (s.acq.seg i).state ≠ .free)
    (hq : calm → MemoryLaw s → CurrentLaw s.acq →
      (s.acq.seg i).state = .complete ∧ ∀ r, s.rend.render = some r → r.seg ≠ i) :
    StoreKept shown calm s (s.handCompleted i) := ite (refl s) ((handOff s i hi hq).trans (resume _))

end StoreKept

end Sys2Proof.Machine
end

section
/-!
SUPPORT. Completion, kept samples, the disposition of a change and the renderer's acts, over the relation `StoreKept`.
-/

namespace Sys2Proof.Machine

/-- A segment that fills is not render-pending (R86, R108). -/
theorem QueueLaws.not_pending {s : State} (h : QueueLaws s) {i : Nat} (hi : (s.acq.seg i).state = .filling) :
    (s.acq.seg i).pending = false := by
  by_contra hp
  have := (h.used i ((h.flagged i (by simpa using hp)).resolve_right id)).1
  rw [hi] at this
  cases this

/-- In SEQUENCE a completion hands nothing to the renderer before its end (R97 step 4). -/
theorem handCompleted_of_sequence {s : State} (hm : s.acq.mode = .sequence) (i : Nat) :
    (s.completeSeg i).handCompleted i = s.completeSeg i := if_pos ((mode_makeCurrent (s.completed i) i).trans hm)

/-- The filling segment has taken the time of its trigger sample, where the kept sample is that one (R96). -/
def State.timed (s : State) (i : Nat) : State :=
  if s.acq.postCount = 0 then s.setSeg i { s.seg i with time := s.baseTick } else s

/-- A sample of POSTTRIG is written and counted (R96), before the completion that the last of them brings. -/
def State.postStored (s : State) (i : Nat) (cs : List Byte) : State :=
  { (s.timed i).writeSample i ((s.acq.seg i).p + s.acq.postCount) cs with
    acq := { ((s.timed i).writeSample i ((s.acq.seg i).p + s.acq.postCount) cs).acq with
      postCount := s.acq.postCount + 1 } }

/-- A sample of POSTTRIG by the room that the pretrigger part leaves (R96). -/
theorem postSample_eq (s : State) (i : Nat) (cs : List Byte) : s.postSample i cs
    = if s.acq.segLength (s.acq.seg i) ≤ (s.acq.seg i).p then (s.timed i).complete i
      else if s.acq.segLength (s.acq.seg i) - (s.acq.seg i).p ≤ s.acq.postCount + 1 then (s.postStored i cs).complete i
      else s.postStored i cs := rfl

theorem seg_timed {s : State} (m : MemoryLaw s) (i j : Nat) : (s.timed i).acq.seg j
    = if j = i then { s.acq.seg i with time := if s.acq.postCount = 0 then s.baseTick else (s.acq.seg i).time }
      else s.acq.seg j := by
  unfold State.timed
  split
  · exact seg_setSeg m i _ j
  · split
    · next h => rw [h]
    · rfl

namespace StoreKept

variable {shown calm : Prop}

/-- The render in flight, once segment i has been completed, is not of that segment. -/
theorem render_completeSeg {s : State} {i : Nat} (m : MemoryLaw s) (c : CurrentLaw s.acq) (q : QueueLaws s)
    (hi : (s.acq.seg i).state = .filling) {r : Render} (hr : (s.completeSeg i).rend.render = some r) : r.seg ≠ i := by
  intro he
  have hq : QueueLaws (s.completeSeg i) :=
    (completeSeg (shown := True) (calm := True) fun _ => hi).queue trivial m c q
  have hp := (hq.used i (.inr ⟨r, hr, he⟩)).2
  rw [seg_completeSeg_self m] at hp
  have : (s.acq.seg i).pending = true := hp
  rw [q.not_pending hi] at this
  cases this

theorem announce {s : State} {i : Nat} (hi : MemoryLaw s → (s.acq.seg i).state = .filling) :
    StoreKept shown calm s (s.announce i) := by
  refine of_memory (inner_announce s i) fun m => ?_
  have hc : ((s.completeSeg i).acq.seg i).state = .complete := by rw [seg_completeSeg_self m]; rfl
  have chain {p : Prop} (hr : p → ∀ r, (s.completeSeg i).rend.render = some r → r.seg ≠ i) :
      StoreKept shown p s (s.announce i) :=
    (((completeSeg hi).trans (handCompleted _ i (fun _ _ _ => by rw [hc]; simp) fun k _ _ => ⟨hc, hr k⟩)).trans
      (regs (.update _ _ _ _ _ _) (by rfl))).trans (post _ _)
  exact of_queue (chain False.elim) fun _ _ c q => chain fun _ r hr => render_completeSeg m c q (hi m) hr

/-- A segment joins the sequence list. -/
theorem join (s : State) (i n : Nat) :
    StoreKept shown calm s { s with acq := { s.acq with seqList := s.acq.seqList ++ [i], seqCount := n } } where
  toRecordsKept := .regs (.update _ _ _ _ _ _) rfl
  low := fun _ f => f
  kept := fun _ _ k j _ hj => (k j id hj).of_eq rfl rfl id id fun h => List.mem_append_left _ h
  queue := fun _ _ _ q => q.alike (fun _ => rfl) rfl rfl

theorem continueSequence (s : State) (i : Nat) (hi : MemoryLaw s → (s.acq.seg i).state = .complete)
    (hr : calm → MemoryLaw s → ∀ r, s.rend.render = some r → r.seg ≠ i) :
    StoreKept shown calm s (s.continueSequence i) := by
  refine of_memory (inner_continueSequence s i) fun m => ?_
  exact ite (((((join s i _).trans (handOff _ i (fun _ _ _ h => by
      have := hi m
      rw [show s.acq.seg i = _ from rfl] at this
      exact absurd (this.symm.trans h) (by simp)) fun k _ _ => ⟨hi m, hr k m⟩)).trans (resume _)).trans
    (post _ _)).trans (endRun _)) ((join s i _).trans (arm _))

/-- In SEQUENCE a segment that has been completed joins the sequence, which ends or goes on (R99). -/
theorem continueAnnounced {s : State} {i : Nat} (hi : MemoryLaw s → (s.acq.seg i).state = .filling)
    (hm : s.acq.mode = .sequence) : StoreKept shown calm s ((s.announce i).continueSequence i) := by
  refine of_memory ((inner_announce s i).trans (inner_continueSequence _ i)) fun m => ?_
  have hseg : (s.announce i).acq.seg i = { s.completedSeg i with current := true } :=
    (congrArg (fun t : State => t.acq.seg i) (handCompleted_of_sequence hm i)).trans (seg_completeSeg_self m i)
  have hrend : (s.announce i).rend = (s.completeSeg i).rend :=
    show ((s.completeSeg i).handCompleted i).rend = _ from congrArg State.rend (handCompleted_of_sequence hm i)
  have chain {p : Prop} (hr : p → ∀ r, (s.completeSeg i).rend.render = some r → r.seg ≠ i) :
      StoreKept shown p s ((s.announce i).continueSequence i) :=
    (announce hi).trans (continueSequence _ i (fun _ => by rw [hseg]; rfl) fun k _ => hrend ▸ hr k)
  exact of_queue (chain False.elim) fun _ _ c q => chain fun _ r hr => render_completeSeg m c q (hi m) hr

theorem complete {s : State} {i : Nat} (hi : MemoryLaw s → (s.acq.seg i).state = .filling) :
    StoreKept shown calm s (s.complete i) := by
  unfold State.complete
  split
  · exact (announce hi).trans ((endRun _).trans (finishAct _))
  · next hm => exact (continueAnnounced hi hm).trans (finishAct _)
  · exact (announce hi).trans ((arm _).trans (finishAct _))

theorem writeSample (s : State) (i pos : Nat) (cs : List Byte) : StoreKept shown calm s (s.writeSample i pos cs) := by
  refine alike (.beside (inner_writeSample s i pos cs) rfl (fun h => ?_) id) (fun _ _ => rfl) rfl rfl
  unfold State.writeSample
  dsimp only
  generalize s.acq.segChannels (s.seg i) = ns
  generalize s.acq.samples = mem at h
  induction ns generalizing mem with
  | nil => exact h
  | cons n ns ih => exact ih _ (Cells.wf_put h _ _)

theorem timed {s : State} {i : Nat} (hi : MemoryLaw s → (s.acq.seg i).state = .filling) :
    StoreKept shown calm s (s.timed i) := ite (fillMark s hi rfl) (refl s)

theorem postStored {s : State} {i : Nat} (hi : MemoryLaw s → (s.acq.seg i).state = .filling) (cs : List Byte) :
    StoreKept shown calm s (s.postStored i cs) :=
  ((timed hi).trans (writeSample _ i _ cs)).trans (regs (.update _ _ _ _ _ _) rfl)

theorem postSample {s : State} {i : Nat} (hi : MemoryLaw s → (s.acq.seg i).state = .filling) (cs : List Byte) :
    StoreKept shown calm s (s.postSample i cs) := by
  refine of_memory (inner_postSample s i cs) fun m => ?_
  have fills : ((s.timed i).acq.seg i).state = .filling := by rw [seg_timed m, if_pos rfl]; exact hi m
  rw [postSample_eq]
  exact ite ((timed hi).trans (complete fun _ => fills))
    (ite ((postStored hi cs).trans (complete (s := s.postStored i cs) fun _ => fills)) (postStored hi cs))

theorem overwriteOldest {s : State} {i : Nat} (hi : MemoryLaw s → (s.acq.seg i).state = .filling) (cs : List Byte) :
    StoreKept shown calm s (s.overwriteOldest i cs) :=
  of_memory (inner_overwriteOldest s i cs) fun m =>
    ite (refl s) ((writeSample s i _ cs).trans (fillMark (s.writeSample i (s.seg i).wrap cs) (fun _ => hi m) rfl))

theorem pretrigSample (s : State) (i : Nat) (cs : List Byte) : StoreKept shown calm s (s.pretrigSample i cs) := by
  have stored : StoreKept shown calm s (s.pretrigStored i cs) :=
    (writeSample s i _ cs).trans (regs (.update _ _ _ _ _ _) rfl)
  rw [pretrigSample_eq]
  exact ite (stored.trans (passToReady _)) stored

theorem tracked (s : State) (i : Nat) (cs : List Byte) (ext : Bool) : StoreKept shown calm s (s.tracked i cs ext) :=
  regs (inner_tracked s i cs ext) rfl

theorem keptSample (s : State) (cs : List Byte) (ext : Bool) : StoreKept shown calm s (s.keptSample cs ext) := by
  refine of_memory (inner_keptSample s cs ext) fun m => ?_
  unfold State.keptSample
  split
  · next i hi =>
    have hf : (s.acq.seg i).state = .filling := Acq.filling_of_fillingIdx m.1 hi
    have taken : (((s.tracked i cs ext).takeTrigger false).acq.seg i).state = .filling := hf
    unfold State.takeSample
    split
    · exact (tracked s i cs ext).trans (pretrigSample _ i cs)
    · exact ite (((tracked s i cs ext).trans (takeTrigger _ _)).trans (postSample (fun _ => taken) cs))
        ((tracked s i cs ext).trans (overwriteOldest (s := s.tracked i cs ext) (fun _ => hf) cs))
    · exact (tracked s i cs ext).trans (postSample (s := s.tracked i cs ext) (fun _ => hf) cs)
    · exact refl s
  · exact refl s

/-! ## Changes (R12 to R17) -/

end StoreKept

/-- The second half of a restart: in SEQUENCE the sequence begins again (R13). -/
def State.begunAgain (t : State) (mode : RunMode) : State :=
  if mode = .sequence then
    { t.freeUnheld t.acq.seqList with
      acq := { (t.freeUnheld t.acq.seqList).acq with seqList := [], seqCount := 0, nextSlot := 0 } }
  else t

theorem restart_eq (s : State) : s.restart =
    { (s.abandonFilling.begunAgain s.acq.mode).purge.clearRasters with
      acq := { (s.abandonFilling.begunAgain s.acq.mode).purge.clearRasters.acq with state := .settling }
      trig := (s.abandonFilling.begunAgain s.acq.mode).purge.clearRasters.trig.cancel } := rfl

namespace RecordsKept

variable {shown : Prop}

theorem begunAgain (t : State) (mode : RunMode) : RecordsKept shown t (t.begunAgain mode) :=
  ite ((freeUnheld t _).trans (regs (.update _ _ _ _ _ _) rfl)) (refl t)

end RecordsKept

theorem KeptBut.begunAgain_mode {t : State} (m : MemoryLaw t) (h : AllKept t) (mode : RunMode) :
    AllKept (t.begunAgain mode) := by
  unfold State.begunAgain
  split
  · exact h.begunAgain m fun i hi _ => hi
  · exact h

/-- After a restart every COMPLETE segment is kept, wherever the segment was that filled (R13, R87). -/
theorem KeptBut.restart {s : State} (m : MemoryLaw s) (h : AllKept s) : AllKept s.restart := by
  have m1 := (RecordsKept.abandonFilling (shown := True) s).memory m
  have m2 := (RecordsKept.begunAgain (shown := True) s.abandonFilling s.acq.mode).memory m1
  have k2 : AllKept (s.abandonFilling.begunAgain s.acq.mode) := (h.abandonFilling m).begunAgain_mode m1 _
  have m3 := (RecordsKept.purge (shown := True) _).memory m2
  exact KeptBut.abandonRender (s := { State.purge _ with rend := _ }) ⟨m3.1, m3.2.1, rfl, m3.2.2.2⟩ (k2.purge m2)

theorem fillKept_begunAgain (t : State) (mode : RunMode) : FillKept t (t.begunAgain mode) :=
  .ite ((fillKept_freeUnheld t _).trans (.of_acq rfl ⟨Iff.rfl, .inl rfl, id, fun _ _ => .refl _, fun _ => rfl⟩))
    (.refl t)

theorem render_clearRasters (s : State) : s.clearRasters.rend.render = none := render_abandonRender _

namespace StoreKept

variable {shown calm : Prop}

theorem begunAgain (t : State) (mode : RunMode) : StoreKept shown calm t (t.begunAgain mode) :=
  of_filling (.begunAgain t mode) (fillKept_begunAgain t mode) (fun m k => k.begunAgain_mode m mode) fun m q => by
    unfold State.begunAgain
    split
    · exact (q.freeUnheld m t.acq.seqList).alike (fun _ => rfl) rfl rfl
    · exact q

theorem restart (s : State) : StoreKept shown calm s s.restart := by
  rw [restart_eq]
  exact ((((abandonFilling s).trans (begunAgain _ _)).trans (purge _)).trans (clearRasters _)).trans
    (regs (.update _ _ _ _ _ _) rfl)

theorem freeAboveK (s : State) (ids : List Nat) : StoreKept shown calm s (s.freeAboveK ids) :=
  ite (freeUnheld s _) (refl s)

theorem feArbitrate (s : State) : StoreKept shown calm s s.feArbitrate := by
  rw [feArbitrate_eq]
  exact regs (.update _ _ _ _ _ _) rfl

theorem requestUpdates (s : State) (ids : List Nat) : StoreKept shown calm s (s.requestUpdates ids) :=
  ite (refl s) ((regs (.update _ _ _ _ _ _) (by rfl)).trans (feArbitrate _))

theorem disposeAcq (s : State) (ids : List Nat) : StoreKept shown calm s (s.disposeAcq ids) :=
  ite (ite (restart s) (regs (.update _ _ _ _ _ _) rfl)) (refl s)

/-- The current segment is handed to a renderer with no render in flight (R16). -/
theorem requeueCurrent {s : State} (hr : s.rend.render = none) : StoreKept shown calm s s.requeueCurrent := by
  unfold State.requeueCurrent
  split
  · next i hi =>
    have hc (m : MemoryLaw s) (c : CurrentLaw s.acq) : (s.acq.seg i).state = .complete :=
      c.2 i (Acq.current_of_currentIdx m.1 hi)
    exact handOff s i (fun _ m c => by rw [hc m c]; simp) fun _ m c => ⟨hc m c, by simp [hr]⟩
  · exact refl s

theorem disposeView (s : State) (ids : List Nat) : StoreKept shown calm s (s.disposeView ids) :=
  ite (ite (clearRasters s) ((clearRasters s).trans (requeueCurrent (render_clearRasters s)))) (refl s)

theorem disposeTrigMode (s : State) (ids : List Nat) : StoreKept shown calm s (s.disposeTrigMode ids) :=
  ite (regs (.update _ _ _ _ _ _) rfl) (refl s)

theorem disposeAux (s : State) (ids : List Nat) : StoreKept shown calm s (s.disposeAux ids) :=
  ite (regs (.update _ _ _ _ _ _) rfl) (refl s)

theorem disposeEnd (s : State) (ids : List Nat) : StoreKept shown calm s (s.disposeEnd ids) :=
  ite ((resume s).trans (arm _)) (ite (finishAct s) (refl s))

/-- What a disposition does once an ACQ change has restarted the acquisition or marked the fields. -/
theorem disposeRest (s : State) (ids : List Nat) : StoreKept shown calm s
    ((((s.disposeView ids).disposeTrigMode ids).disposeAux ids).disposeEnd ids) :=
  (((disposeView s ids).trans (disposeTrigMode _ _)).trans (disposeAux _ _)).trans (disposeEnd _ _)

theorem dispose (s : State) (ids : List Nat) : StoreKept shown calm s (s.dispose ids) :=
  (((freeAboveK s ids).trans (requestUpdates _ _)).trans (disposeAcq _ _)).trans (disposeRest _ _)

/-! ## The renderer (R105, R114, R125) -/

end StoreKept

theorem seg_nextColumn (a : Acq) (r : Render) (m : ChanMap) : (nextColumn a r m).seg = r.seg := by
  unfold nextColumn
  split <;> rfl

namespace StoreKept

variable {shown calm : Prop}

/-- A column is drawn, and the render goes on in its record (R114). -/
theorem drawn {s : State} {r : Render} (hr : s.rend.render = some r) (m : ChanMap) :
    StoreKept shown calm s { s with rend := { s.rend with
      rasters := drawColumn s.acq r m s.rend.rasters
      render := some (nextColumn s.acq r m) } } := by
  refine alike (.beside (.update _ _ _ _ _ _) rfl id fun h => wf_drawColumn h s.acq r m) (fun _ _ => rfl) rfl ?_
  rw [hr, Option.map_some, Option.map_some, seg_nextColumn]

theorem columnStep {s : State} {r : Render} (hr : s.rend.render = some r) (m : ChanMap) :
    StoreKept shown calm s (s.columnStep r m) :=
  ite (drawn hr m) (((drawn hr m).trans (abandonRender _)).trans (resume _))

theorem clearDisplay (s : State) : StoreKept shown calm s s.clearDisplay := (clearRasters s).trans (finishAct _)

end StoreKept

/-- What keeps segment i once it is no longer render-pending (R87). -/
def KeptStill (s : State) (i : Nat) : Prop :=
  0 < (s.acq.seg i).holdsA + (s.acq.seg i).holdsB
    ∨ (i < s.slots ∧ ((s.acq.seg i).current = true ∨ i ∈ s.acq.seqList))

/-- The record of a segment whose freeing hangs on what keeps it. -/
theorem seg_freeIfUnkept_self {s : State} (m : MemoryLaw s) {i : Nat} (hc : (s.acq.seg i).state = .complete) :
    (Kept s i → (s.freeIfUnkept i).acq.seg i = s.acq.seg i)
      ∧ (¬ Kept s i → (s.freeIfUnkept i).acq.seg i = Seg.blank) := by
  rw [← kept_iff]
  unfold State.freeIfUnkept
  constructor
  · intro hk
    rw [if_neg (fun h => by simp [hk] at h)]
  · intro hk
    rw [if_pos ⟨hc, by simpa using hk⟩, seg_freeSeg m, if_pos rfl]

/-- A render's end leaves its segment COMPLETE where something else keeps it, and frees it otherwise (R87, R108). -/
theorem seg_clearPending_self {s : State} (m : MemoryLaw s) {i : Nat} (hc : (s.acq.seg i).state = .complete) :
    (KeptStill s i → (s.clearPending i).acq.seg i = { s.acq.seg i with pending := false })
      ∧ (¬ KeptStill s i → (s.clearPending i).acq.seg i = Seg.blank) := by
  have hseg : (s.setSeg i { s.seg i with pending := false }).acq.seg i = { s.acq.seg i with pending := false } := by
    rw [seg_setSeg m, if_pos rfl, State.seg_eq]
  have hk : Kept (s.setSeg i { s.seg i with pending := false }) i ↔ KeptStill s i := by
    rw [Kept, KeptLess, hseg, KeptStill]
    simp
    rfl
  obtain ⟨h1, h2⟩ := seg_freeIfUnkept_self (memory_setSeg m i { s.seg i with pending := false })
    (by rw [hseg]; exact hc)
  rw [hk, hseg] at h1
  rw [hk] at h2
  exact ⟨h1, h2⟩

/-- A segment that something besides its render keeps outlasts a render's end. -/
theorem seg_abandonRender {s : State} (m : MemoryLaw s) {i : Nat} (hc : (s.acq.seg i).state = .complete)
    (hk : KeptStill s i) : s.abandonRender.acq.seg i
      = { s.acq.seg i with pending := (s.abandonRender.acq.seg i).pending } := by
  unfold State.abandonRender
  split
  · next r _ =>
    by_cases hr : r.seg = i
    · rw [hr]
      have h : (({ s with rend := { s.rend with render := none } } : State).clearPending i).acq.seg i
          = { s.acq.seg i with pending := false } :=
        (seg_clearPending_self (s := { s with rend := { s.rend with render := none } }) m hc).1 hk
      rw [h]
    · have h : (({ s with rend := { s.rend with render := none } } : State).clearPending r.seg).acq.seg i = s.acq.seg i :=
        seg_clearPending_ne (s := { s with rend := { s.rend with render := none } }) m (Ne.symm hr)
      rw [h]
  · rfl

theorem seg_clearRasters {s : State} (m : MemoryLaw s) {i : Nat} (hc : (s.acq.seg i).state = .complete)
    (hk : KeptStill s i) : s.clearRasters.acq.seg i
      = { s.acq.seg i with pending := (s.clearRasters.acq.seg i).pending } :=
  seg_abandonRender (s := { s with rend := { s.rend with rasters := [] } }) ⟨m.1, m.2.1, rfl, m.2.2.2⟩ hc hk

/-- A segment that is current is kept by that where anything keeps it. -/
theorem Kept.still {s : State} {i : Nat} (h : Kept s i) (hc : (s.acq.seg i).current = true) : KeptStill s i :=
  h.imp id fun h => ⟨h.1, .inl hc⟩

namespace StoreKept

variable {shown calm : Prop}

/-- A stored segment is shown (R105), up to the end of the act; that every COMPLETE segment is kept holds the one shown
where the raster clear ends its render. -/
theorem shownSeg {s : State} {i : Nat} (hi : (s.acq.seg i).state = .complete) (hs : shown → AllKept s)
    (hq : calm → AllKept s) : StoreKept shown calm s (((s.makeCurrent i).clearRasters).handOff i) := by
  refine of_memory (((inner_makeCurrent s i).trans (inner_clearRasters _)).trans (inner_handOff _ i)) fun m => ?_
  have m1 : MemoryLaw (s.makeCurrent i) := (RecordsKept.makeCurrent (shown := True) s fun _ => hi).memory m
  have hseg := seg_makeCurrent_self m i
  have hc (k : AllKept s) : ((s.makeCurrent i).clearRasters.acq.seg i).state = .complete := by
    have hc1 : ((s.makeCurrent i).acq.seg i).state = .complete := by rw [hseg]; exact hi
    have k1 : AllKept (s.makeCurrent i) := KeptBut.makeCurrent m (k.mono fun _ => False.elim) (.inr (k i id hi))
    rw [seg_clearRasters m1 hc1 ((k1 i id hc1).still (by rw [hseg]))]
    exact hc1
  exact ((makeCurrent s fun _ => hi).trans (clearRasters _)).trans
    (handOff _ i (fun p _ _ => by rw [hc (hs p)]; simp) fun p _ _ => ⟨hc (hq p), by simp [render_clearRasters]⟩)

end StoreKept

end Sys2Proof.Machine
end

section
/-!
SUPPORT. The part of the acquisition law that speaks of STOP and of the filling segment (R84, R93), under every operation
that starts or ends a filling; and that an arm leaves the renderer alone.
-/

namespace Sys2Proof.Machine

/-! ## One segment fills -/

/-- The records' form, with the law of STOP and of the filling segment. -/
structure OneFills (s : State) : Prop where
  wf : Cells.wf Seg.blank s.acq.segs = true
  one : FillingOne s.acq

/-- Nothing is FILLING, and the run mode is not STOP: an arm may begin. -/
structure NoneFills (s : State) : Prop where
  wf : Cells.wf Seg.blank s.acq.segs = true
  none : NoFilling s.acq
  mode : s.acq.mode ≠ .stop

theorem OneFills.kept {s t : State} (h : OneFills s) (k : FillKept s t) : OneFills t :=
  ⟨k.acq.wf h.wf, h.one.kept h.wf k.acq⟩

theorem NoneFills.kept {s t : State} (h : NoneFills s) (k : FillKept s t) : NoneFills t :=
  ⟨k.acq.wf h.wf, h.none.kept h.wf k.acq, fun e => h.mode (k.acq.mode.1 e)⟩

/-- With nothing FILLING the law asks for no more than the acquisition's state. -/
theorem oneFills_of_none {s : State} (hw : Cells.wf Seg.blank s.acq.segs = true) (hn : NoFilling s.acq)
    (hm : s.acq.mode = .stop ↔ s.acq.state = .stopped) (hf : s.acq.state.fills = false) : OneFills s :=
  ⟨hw, hm, ⟨fun ⟨i, hi⟩ => absurd hi (hn i), fun k => by simp [hf] at k⟩, fun i _ hi => absurd hi (hn i)⟩

/-- In a state that waits to arm, an arm may begin. -/
theorem OneFills.none {s : State} (h : OneFills s) (hs : s.acq.state = .waitSegment ∨ s.acq.state = .settling) :
    NoneFills s := by
  refine ⟨h.wf, h.one.noFilling ?_, fun hm => ?_⟩
  · rcases hs with e | e <;> rw [e] <;> rfl
  · have := h.one.mode.1 hm
    rcases hs with e | e <;> simp [e] at this

theorem OneFills.noFilling_of_stop {s : State} (h : OneFills s) (hm : s.acq.mode = .stop) : NoFilling s.acq :=
  h.one.noFilling (by rw [h.one.mode.1 hm]; rfl)

/-- Without a filling segment the state of a part that does not stand in STOP may become one that waits to arm. -/
theorem NoneFills.waits {s : State} (h : NoneFills s) {x : AcqState} (hx : x = .settling ∨ x = .waitSegment) :
    OneFills { s with acq := { s.acq with state := x } } := by
  refine oneFills_of_none h.wf h.none ?_ ?_
  · rcases hx with rfl | rfl <;> simp [h.mode]
  · rcases hx with rfl | rfl <;> rfl

theorem NoneFills.enterFilling {s : State} (h : NoneFills s) (i e : Nat) (snaps : List Snap) :
    OneFills (s.enterFilling i e snaps) := by
  have fills (j : Nat) : ((s.entered i e snaps).acq.seg j).state = .filling ↔ j = i := by
    rw [seg_entered h.wf]
    split
    · next hj => simp [hj, State.enteredSeg]
    · next hj => simp [hj, h.none j]
  have entered : OneFills (s.entered i e snaps) := by
    refine ⟨Cells.wf_put h.wf i _, by simp [State.entered, h.mode], ?_, fun j k hj hk => ?_⟩
    · simp only [fills]
      exact ⟨fun _ => rfl, fun _ => ⟨i, rfl⟩⟩
    · rw [(fills j).1 hj, (fills k).1 hk]
  rw [enterFilling_eq]
  split
  · exact entered.kept (fillKept_passToReady rfl)
  · exact entered

theorem NoneFills.arm {s : State} (h : NoneFills s) : OneFills s.arm := by
  unfold State.arm
  split
  · have hr := h.kept (fillKept_reuseCurrent h.none)
    unfold State.slotChoice
    dsimp only
    split
    · exact hr.enterFilling _ _ _
    · exact hr.waits (.inr rfl)
  · exact h.waits (.inl rfl)

theorem OneFills.retryWait {s : State} (h : OneFills s) : OneFills s.retryWait := by
  unfold State.retryWait
  split
  · next hs => exact (h.none (.inl hs)).arm
  · exact h

theorem OneFills.tellSettled {s : State} (h : OneFills s) : OneFills s.tellSettled := by
  unfold State.tellSettled
  split
  · next hs => exact (h.none (.inr hs)).arm
  · exact h

theorem OneFills.finishAct {s : State} (h : OneFills s) : OneFills s.finishAct := (h.kept (fillKept_resume s)).retryWait

/-! ## Run modes -/

theorem wf_abandonFilling {s : State} (h : Cells.wf Seg.blank s.acq.segs = true) :
    Cells.wf Seg.blank s.abandonFilling.acq.segs = true := by
  unfold State.abandonFilling
  split
  · exact Cells.wf_put h _ _
  · exact h

theorem OneFills.enterStop {s : State} (h : OneFills s) : NoFilling s.enterStop.acq ∧ OneFills s.enterStop := by
  have hn : NoFilling s.enterStop.acq := noFilling_abandonFilling h.wf h.one.unique
  exact ⟨hn, oneFills_of_none (wf_abandonFilling h.wf) hn ⟨fun _ => rfl, fun _ => rfl⟩ rfl⟩

theorem OneFills.toActive {s : State} (h : OneFills s) {m : RunMode} (hm : m ≠ .stop) : OneFills (s.toActive m) := by
  unfold State.toActive
  split
  · next hs =>
    have left : NoneFills (s.clearChanged.setMode m) := ⟨h.wf, h.noFilling_of_stop hs, hm⟩
    exact ((left.kept (fillKept_emptySequence _)).kept (fillKept_resume _)).arm
  · next hs => exact ((h.kept (fillKept_setMode (by simp [hm, hs]))).kept (fillKept_emptySequence _)).finishAct

theorem OneFills.toSequence {s : State} (h : OneFills s) : OneFills s.toSequence := by
  have begun {t : State} (k : OneFills t) (hn : NoFilling t.acq) :
      OneFills ((t.clearChanged.setMode .sequence).startSequence.resume.arm) := by
    have left : NoneFills (t.clearChanged.setMode .sequence) := ⟨k.wf, hn, by simp [State.setMode]⟩
    exact ((left.kept (fillKept_startSequence _)).kept (fillKept_resume _)).arm
  unfold State.toSequence
  dsimp only
  split
  · next hs => exact begun h (h.noFilling_of_stop hs)
  · exact begun h.enterStop.2 h.enterStop.1

theorem OneFills.runControl {s : State} (h : OneFills s) (m : RunMode) : OneFills (s.runControl m) := by
  unfold State.runControl
  split
  · exact h
  · cases m with
    | stop => exact h.enterStop.2
    | run => exact h.toActive (by simp)
    | single => exact h.toActive (by simp)
    | sequence => exact h.toSequence

/-! ## Completion and samples -/

theorem OneFills.mode_ne_stop {s : State} (h : OneFills s) {i : Nat} (hi : (s.acq.seg i).state = .filling) :
    s.acq.mode ≠ .stop := fun k => h.noFilling_of_stop k i hi

theorem OneFills.announce {s : State} (h : OneFills s) {i : Nat} (hi : (s.acq.seg i).state = .filling) :
    NoneFills (s.announce i) := by
  have done : NoneFills (s.completed i) := by
    refine ⟨Cells.wf_put h.wf _ _, fun j hj => ?_, h.mode_ne_stop hi⟩
    rw [seg_put h.wf (b := (s.completed i).acq) rfl] at hj
    split at hj
    · cases hj
    · next hne => exact hne (h.one.unique j i hj hi)
  have handed (t : State) : FillKept t (t.handCompleted i) :=
    .ite (.refl t) ((fillKept_handOff t i).trans (fillKept_resume _))
  exact ((done.kept (fillKept_makeCurrent _ i)).kept (handed _)).kept (.beside rfl)

theorem NoneFills.endRun {s : State} (h : NoneFills s) : OneFills s.endRun :=
  oneFills_of_none h.wf h.none ⟨fun _ => rfl, fun _ => rfl⟩ rfl

theorem NoneFills.continueSequence {s : State} (h : NoneFills s) (i : Nat) : OneFills (s.continueSequence i) := by
  have joined : NoneFills { s with acq := { s.acq with
      seqList := s.acq.seqList ++ [i], seqCount := s.acq.seqCount + 1 } } := ⟨h.wf, h.none, h.mode⟩
  unfold State.continueSequence
  dsimp only
  split
  · exact (((joined.kept (fillKept_handOff _ i)).kept (fillKept_resume _)).kept (fillKept_post _ _)).endRun
  · exact joined.arm

theorem OneFills.complete {s : State} (h : OneFills s) {i : Nat} (hi : (s.acq.seg i).state = .filling) :
    OneFills (s.complete i) := by
  have ha := h.announce hi
  unfold State.complete
  split
  · exact ha.endRun.finishAct
  · exact (ha.continueSequence i).finishAct
  · exact ha.arm.finishAct

theorem OneFills.postSample {s : State} (h : OneFills s) {i : Nat} (hi : (s.acq.seg i).state = .filling)
    (cs : List Byte) : OneFills (s.postSample i cs) := by
  have timed : FillKept s (if s.acq.postCount = 0 then s.setSeg i { s.seg i with time := s.baseTick } else s) :=
    .ite (fillKept_setSeg (.of_eq rfl rfl)) (.refl s)
  have counted (t : State) (n : Nat) : FillKept t { t with acq := { t.acq with postCount := n } } :=
    .of_acq rfl ⟨Iff.rfl, .inl rfl, id, fun _ _ => .refl _, fun _ => rfl⟩
  have done {t : State} (k : FillKept s t) : OneFills (t.complete i) := (h.kept k).complete ((k.acq.seg h.wf i).1.2 hi)
  unfold State.postSample
  dsimp only
  split
  · exact done timed
  · have written := (timed.trans (fillKept_writeSample _ i ((s.seg i).p + s.acq.postCount) cs)).trans
      (counted _ (s.acq.postCount + 1))
    split
    · exact done written
    · exact h.kept written

theorem OneFills.keptSample {s : State} (h : OneFills s) (cs : List Byte) (ext : Bool) :
    OneFills (s.keptSample cs ext) := by
  unfold State.keptSample
  split
  · next i hi =>
    have tracked := fillKept_tracked s i cs ext
    have posted {t : State} (k : FillKept s t) : OneFills (t.postSample i cs) :=
      (h.kept k).postSample ((k.acq.seg h.wf i).1.2 (Acq.filling_of_fillingIdx h.wf hi)) cs
    unfold State.takeSample
    split
    · next hs => exact (h.kept tracked).kept (fillKept_pretrigSample (by simp [State.tracked, hs, AcqState.fills]) i cs)
    · next hs =>
      split
      · exact posted (tracked.trans (fillKept_takeTrigger (by simp [State.tracked, hs, AcqState.fills]) false))
      · exact (h.kept tracked).kept (fillKept_overwriteOldest _ i cs)
    · exact posted tracked
    · exact h
  · exact h

/-! ## Changes -/

theorem OneFills.restart {s : State} (h : OneFills s) (hm : s.acq.mode ≠ .stop) : NoneFills s.restart := by
  have abandoned : NoneFills s.abandonFilling :=
    ⟨wf_abandonFilling h.wf, noFilling_abandonFilling h.wf h.one.unique, by rw [mode_abandonFilling]; exact hm⟩
  have cleared := ((abandoned.kept (fillKept_begunAgain _ s.acq.mode)).kept (fillKept_purge _)).kept
    (fillKept_clearRasters _)
  rw [restart_eq]
  exact ⟨cleared.wf, cleared.none, cleared.mode⟩

/-- After an ACQ change nothing is FILLING: it was abandoned, or the part stands in STOP (R13, R14). -/
theorem OneFills.noFilling_disposeAcq {s : State} (h : OneFills s) {ids : List Nat}
    (hc : hasClass s.straps ids .acq = true) : NoFilling (s.disposeAcq ids).acq := by
  rw [State.disposeAcq, if_pos hc]
  split
  · next ha => exact (h.restart ((active_iff s).1 ha)).none
  · next ha => exact h.noFilling_of_stop (by rw [active_iff] at ha; simpa using ha)

theorem OneFills.dispose {s : State} (h : OneFills s) (ids : List Nat) : OneFills (s.dispose ids) := by
  have hk := inner_requestUpdates (s.freeAboveK ids) ids
  have hacq := acq_requestUpdates (s.freeAboveK ids) ids
  have freed := h.kept (fillKept_freeAboveK s ids)
  unfold State.dispose
  generalize (s.freeAboveK ids).requestUpdates ids = w at hk hacq
  have one : OneFills w := ⟨hacq ▸ freed.wf, hacq ▸ freed.one⟩
  have rest (x : State) : FillKept x (((x.disposeView ids).disposeTrigMode ids).disposeAux ids) :=
    fillKept_disposeRest x ids
  by_cases hr : (hasClass w.straps ids .acq && w.active) = true
  · obtain ⟨hc, ha⟩ := Bool.and_eq_true_iff.1 hr
    have hm := (active_iff w).1 ha
    have restarted : NoneFills (w.disposeAcq ids) := by
      rw [State.disposeAcq, if_pos hc, if_pos ha]
      exact one.restart hm
    have done := restarted.kept (rest _)
    rw [State.disposeEnd, if_pos]
    · exact (done.kept (fillKept_resume _)).arm
    · rw [(rest _).straps, (inner_disposeAcq w ids).straps, hc, Bool.true_and, active_iff]
      exact done.mode
  · have same : OneFills (w.disposeAcq ids) ∧ (w.disposeAcq ids).active = w.active := by
      unfold State.disposeAcq
      split
      · next hc =>
        rw [if_neg (by simpa [hc] using hr)]
        exact ⟨⟨one.wf, one.one⟩, rfl⟩
      · exact ⟨one, rfl⟩
    have done := same.1.kept (rest _)
    have hact : (((w.disposeAcq ids).disposeView ids).disposeTrigMode ids |>.disposeAux ids).active = w.active := by
      rw [← same.2, Bool.eq_iff_iff, active_iff, active_iff, not_iff_not]
      exact (rest _).acq.mode
    rw [State.disposeEnd, if_neg]
    · split
      · exact done.finishAct
      · exact done
    · rw [(rest _).straps, (inner_disposeAcq w ids).straps, hact]
      exact hr

theorem OneFills.applyValues {s : State} (h : OneFills s) (src : Source) (f : Nat → Int) :
    OneFills (s.applyValues src f) := by
  unfold State.applyValues
  split
  · exact h
  · obtain ⟨-, ha, -⟩ := frame_recordChange s src f
    have : OneFills (s.recordChange src f) := ⟨ha ▸ h.wf, ha ▸ h.one⟩
    exact this.dispose _

/-! ## The renderer beside an arm -/

theorem rend_takeTrigger (s : State) (auto : Bool) : (s.takeTrigger auto).rend = s.rend := by
  unfold State.takeTrigger
  dsimp only
  split <;> rfl

theorem rend_passToReady (s : State) : s.passToReady.rend = s.rend := by
  unfold State.passToReady
  split
  · exact rend_takeTrigger _ _
  · rfl

/-- The current segment that is reused waits for no render (R90). -/
theorem rend_reuseCurrent {s : State} (q : QueueLaws s) : s.reuseCurrent.rend = s.rend := by
  unfold State.reuseCurrent
  split
  · rfl
  · split
    · next i _ _ =>
      split
      · next hr =>
        refine rend_freeSeg fun k => ?_
        simp [State.reusable, (q.used i k).2] at hr
      · rfl
    · rfl

theorem rend_arm {s : State} (q : QueueLaws s) : s.arm.rend = s.rend := by
  unfold State.arm State.slotChoice
  split
  · dsimp only
    split
    · rw [enterFilling_eq]
      split
      · exact (rend_passToReady _).trans (rend_reuseCurrent q)
      · exact rend_reuseCurrent q
    · exact rend_reuseCurrent q
  · rfl

theorem rend_abandonFilling {s : State} (m : MemoryLaw s) (q : QueueLaws s) : s.abandonFilling.rend = s.rend := by
  unfold State.abandonFilling
  split
  · next i hi =>
    refine rend_freeSeg fun k => ?_
    have := (q.used i k).1
    rw [Acq.filling_of_fillingIdx m.1 hi] at this
    cases this
  · rfl

end Sys2Proof.Machine
end

section
/-!
SUPPORT. The laws of the segment store over everything a command is made of: `PartKept` for an operation, and `LawsKept`,
with a renderer at rest and the holds, for an act.
-/

namespace Sys2Proof.Machine

/-! ## Holds (R102, R103, R164) -/

/-- The holds that stand for the data a port gives. -/
def heldFor : Option DataOut → List HoldEntry
  | some (.waveform i _ _ _) => [⟨i, true⟩]
  | _ => []

/-- A port's implicit hold stands with its READ_WAVEFORM, and data is given in RESPONDING and DATA_OUT alone (R103). -/
def OutSound (ps : PortState) : Prop :=
  (ps.holds.filter fun h => h.implicit) = heldFor ps.out ∧ (ps.out ≠ none → ps.link = .responding ∨ ps.link = .dataOut)

/-- The ports' lists and the records' counts agree, at most 4 a port, and what is held is COMPLETE (R102). -/
structure HoldsMatch (s : State) : Prop where
  few : ∀ p, (s.port p).holds.length ≤ 4
  count : ∀ p i, (s.acq.seg i).portHolds p = (s.port p).holds.countP fun h => h.seg == i
  sound : ∀ i, HoldSound (s.acq.seg i)

theorem portHolds_le (g : Seg) (p : Port) : g.portHolds p ≤ g.holdsA + g.holdsB := by
  cases p <;> simp [Seg.portHolds]

theorem holdLaw_iff (s : State) : HoldLaw s ↔ HoldsMatch s ∧ ∀ p, OutSound (s.port p) := by
  constructor
  · intro h
    have law (p : Port) : PortHoldLaw s p := by cases p; exacts [h.1, h.2]
    refine ⟨⟨fun p => (law p).1, fun p => (law p).2.1, fun i hi => ?_⟩, fun p => ?_⟩
    · have held {p : Port} (hp : 0 < (s.acq.seg i).portHolds p) : (s.acq.seg i).state = .complete := by
        obtain ⟨-, hc, hs, -⟩ := law p
        rw [hc, List.countP_pos_iff] at hp
        obtain ⟨e, he, hei⟩ := hp
        exact (by simpa using hei : e.seg = i) ▸ hs e he
      rcases Nat.eq_zero_or_pos (s.acq.seg i).holdsA with h0 | hA
      · exact held (p := .b) (by simp only [Seg.portHolds]; omega)
      · exact held (p := .a) hA
    · obtain ⟨-, -, -, hi, hl⟩ := law p
      refine ⟨hi.trans ?_, hl⟩
      generalize (s.port p).out = o
      cases o with
      | none => rfl
      | some d => cases d <;> rfl
  · rintro ⟨⟨hf, hc, hs⟩, ho⟩
    have law (p : Port) : PortHoldLaw s p := by
      refine ⟨hf p, hc p, fun e he => hs _ ?_, (ho p).1.trans ?_, (ho p).2⟩
      · have : 0 < (s.acq.seg e.seg).portHolds p := by
          rw [hc, List.countP_pos_iff]
          exact ⟨e, he, by simp⟩
        exact this.trans_le (portHolds_le _ p)
      · generalize (s.port p).out = o
        cases o with
        | none => rfl
        | some d => cases d <;> rfl
    exact ⟨law .a, law .b⟩

theorem HoldsMatch.same {s t : State} (h : HoldsMatch s)
    (hg : ∀ i, HoldSound (s.acq.seg i) → HoldsSame (s.acq.seg i) (t.acq.seg i))
    (hp : ∀ p, (t.port p).holds = (s.port p).holds) : HoldsMatch t := by
  refine ⟨fun p => hp p ▸ h.few p, fun p i => ?_, fun i => (hg i (h.sound i)).2.2⟩
  obtain ⟨hA, hB, -⟩ := hg i (h.sound i)
  rw [hp, ← h.count]
  cases p
  · exact hA
  · exact hB

/-- Notices leave a port's holds and its request alone. -/
theorem Noticed.request {ps qs : PortState} (h : Noticed ps qs) : (qs.holds, qs.out, qs.link) = (ps.holds, ps.out, ps.link) := by
  obtain ⟨ns, rfl⟩ := h
  induction ns generalizing ps with
  | nil => rfl
  | cons n ns ih => exact ih

/-- A port that holds the same, and gives its data as before or gives none. -/
def OutKept (ps qs : PortState) : Prop := qs.holds = ps.holds ∧ (OutSound ps → OutSound qs)

theorem OutKept.refl (ps : PortState) : OutKept ps ps := ⟨rfl, id⟩

theorem OutKept.of_eq {ps qs : PortState} (h : (qs.holds, qs.out, qs.link) = (ps.holds, ps.out, ps.link)) :
    OutKept ps qs := by
  simp only [Prod.mk.injEq] at h
  obtain ⟨h1, h2, h3⟩ := h
  exact ⟨h1, fun k => by rw [OutSound, h1, h2, h3]; exact k⟩

/-- A port whose request is no DATA_OUT in its response or data phase holds nothing implicitly (R103). -/
theorem OutSound.none {ps : PortState} (h : OutSound ps) (hl : ps.link ≠ .responding ∧ ps.link ≠ .dataOut) :
    ps.out = none := by
  by_contra hne
  rcases h.2 hne with k | k
  · exact hl.1 k
  · exact hl.2 k

/-- A port that gives nothing goes on to give nothing. -/
theorem OutKept.idle {ps qs : PortState} (hl : ps.link ≠ .responding ∧ ps.link ≠ .dataOut) (hh : qs.holds = ps.holds)
    (ho : qs.out = none ∨ qs.out = ps.out) : OutKept ps qs := by
  refine ⟨hh, fun k => ?_⟩
  have h0 := k.none hl
  have hq : qs.out = none := ho.elim id fun e => e.trans h0
  exact ⟨by rw [hh, hq, ← h0]; exact k.1, fun hne => absurd hq hne⟩

theorem Inner.outKept {s t : State} (h : Inner s t) (p : Port) : OutKept (s.port p) (t.port p) :=
  .of_eq (by cases p; exacts [h.portA.request, h.portB.request])

theorem Inner.link {s t : State} (h : Inner s t) (p : Port) : (t.port p).link = (s.port p).link := by
  have := (by cases p; exacts [h.portA.request, h.portB.request] :
    ((t.port p).holds, (t.port p).out, (t.port p).link) = ((s.port p).holds, (s.port p).out, (s.port p).link))
  simp only [Prod.mk.injEq] at this
  exact this.2.2

theorem HoldLaw.outKept {s t : State} (h : HoldLaw s)
    (hg : ∀ i, HoldSound (s.acq.seg i) → HoldsSame (s.acq.seg i) (t.acq.seg i))
    (hp : ∀ p, OutKept (s.port p) (t.port p)) : HoldLaw t := by
  rw [holdLaw_iff] at h ⊢
  exact ⟨h.1.same hg fun p => (hp p).1, fun p => (hp p).2 (h.2 p)⟩

/-! ## An operation -/

/-- The law of what keeps a segment that holds all through an act: every COMPLETE segment is kept, and what fills lies below
K (R85, R87). -/
def KeptInv (s : State) : Prop := FillsLow s ∧ AllKept s

theorem keptInv_of_laws {s : State} (h : KeptLaw s) (hh : HoldLaw s) : KeptInv s := by
  refine ⟨fun i hi => ?_, fun i _ => h.1 i⟩
  by_contra hn
  rcases h.2 i (Nat.le_of_not_lt hn) with hf | hp
  · rw [hi] at hf
    cases hf
  · have := ((holdLaw_iff s).1 hh).1.sound i hp
    rw [hi] at this
    cases this

theorem KeptInv.law {s : State} (h : KeptInv s) : KeptLaw s := by
  refine ⟨fun i => h.2 i id, fun i hi => ?_⟩
  cases hs : (s.acq.seg i).state with
  | free => exact .inl rfl
  | filling => exact absurd (h.1 i hs) (Nat.not_lt.2 hi)
  | complete =>
    rcases h.2 i id hs with hp | ⟨hl, -⟩
    · exact .inr hp
    · exact absurd hl (Nat.not_lt.2 hi)

/-- The memories beside those of the segment store and the renderer keep their form. -/
def OtherMemory (s : State) : Prop :=
  Cells.wf (0 : Word) s.comp.front = true ∧ Cells.wf (0 : Word) s.comp.back = true
    ∧ Cells.wf (0 : BitVec 4) s.comp.ovA.plane = true ∧ Cells.wf (0 : BitVec 4) s.comp.ovB.plane = true
    ∧ Cells.wf erasedWord s.store.flash = true

/-- An operation that keeps the memories' form and the laws of the filling and the current segment, the snapshot table
and the render queue. -/
structure PartFormed (shown : Prop) (s t : State) : Prop where
  memory : MemoryLaw s → MemoryLaw t
  fills : MemoryLaw s → FillingOne s.acq → FillingOne t.acq
  current : MemoryLaw s → CurrentLaw s.acq → CurrentLaw t.acq
  snapshot : shown → MemoryLaw s → CurrentLaw s.acq → SnapshotLaw s → SnapshotLaw t
  queue : shown → MemoryLaw s → CurrentLaw s.acq → QueueLaws s → QueueLaws t

theorem PartFormed.trans {shown : Prop} {s t u : State} (h : PartFormed shown s t) (k : PartFormed shown t u) :
    PartFormed shown s u where
  memory := k.memory ∘ h.memory
  fills := fun m f => k.fills (h.memory m) (h.fills m f)
  current := fun m c => k.current (h.memory m) (h.current m c)
  snapshot := fun p m c l => k.snapshot p (h.memory m) (h.current m c) (h.snapshot p m c l)
  queue := fun p m c q => k.queue p (h.memory m) (h.current m c) (h.queue p m c q)

/-- What is done beside the acquisition and the renderer. -/
theorem PartFormed.beside {shown : Prop} {s t : State} (ha : t.acq = s.acq) (hr : t.rend = s.rend)
    (hm : OtherMemory s → OtherMemory t) : PartFormed shown s t where
  memory := fun ⟨m1, m2, m3, m⟩ => ⟨ha ▸ m1, ha ▸ m2, hr ▸ m3, hm m⟩
  fills := fun _ f => ha ▸ f
  current := fun _ c => ha ▸ c
  snapshot := fun _ _ _ l => snapshotLaw_congr l (by rw [ha])
  queue := fun _ _ _ q => q.alike (fun j => by rw [ha]; rfl) (by rw [hr]) (by rw [hr])

/-- It keeps what keeps a segment as well. The laws of a renderer at rest and of the holds stand apart. -/
structure PartKept (shown : Prop) (s t : State) : Prop extends PartFormed shown s t where
  kept : MemoryLaw s → FillingOne s.acq → KeptInv s → KeptInv t

namespace PartKept

variable {shown : Prop}

theorem refl (s : State) : PartKept shown s s :=
  ⟨⟨id, fun _ => id, fun _ => id, fun _ _ _ => id, fun _ _ _ => id⟩, fun _ _ => id⟩

theorem trans {s t u : State} (h : PartKept shown s t) (k : PartKept shown t u) : PartKept shown s u :=
  ⟨h.toPartFormed.trans k.toPartFormed, fun m f i => k.kept (h.memory m) (h.fills m f) (h.kept m f i)⟩

theorem ite {s t u : State} {c : Prop} [Decidable c] (h : PartKept shown s t) (k : PartKept shown s u) :
    PartKept shown s (if c then t else u) := by split <;> assumption

theorem of_store {s t : State} (h : StoreKept shown shown s t) (hf : OneFills s → OneFills t) : PartKept shown s t where
  memory := h.memory
  fills := fun m f => (hf ⟨m.1, f⟩).one
  current := h.current
  snapshot := h.snapshot
  kept := fun m _ k => ⟨h.low m k.1, h.kept m k.1 k.2⟩
  queue := h.queue

theorem of_kept {s t : State} (h : StoreKept shown shown s t) (hf : FillKept s t) : PartKept shown s t :=
  of_store h fun o => o.kept hf

/-- What is done beside the segment store and the renderer. -/
theorem beside {s t : State} (h : (t.acq, t.rend, t.straps, t.setup.recs) = (s.acq, s.rend, s.straps, s.setup.recs))
    (hm : OtherMemory s → OtherMemory t) : PartKept shown s t := by
  simp only [Prod.mk.injEq] at h
  obtain ⟨ha, hr, hs, hv⟩ := h
  have hk : t.slots = s.slots := by rw [State.slots, State.slots, State.recordLength, State.recordLength, hs, fieldVal_congr hv]
  refine ⟨.beside ha hr hm, fun _ _ k => ⟨fun i hi => ?_, k.2.alike (fun j => by rw [ha]; rfl) hk (by rw [ha])⟩⟩
  rw [hk]
  exact k.1 i (ha ▸ hi)

/-- A port moves, and nothing else. -/
theorem updPort (s : State) (p : Port) (f : PortState → PortState) : PartKept shown s (s.updPort p f) := beside rfl id

end PartKept

/-! ## Holds taken and given back -/

/-- The counts of a record change, and nothing else that these laws look at. -/
theorem PartFormed.setHolds {shown : Prop} {s : State} {i : Nat} {p : Port} {f : Nat → Nat}
    (hb : s.acq.seg i = Seg.blank → Seg.blank.updHolds p f = Seg.blank) :
    PartFormed shown s (s.setSeg i ((s.seg i).updHolds p f)) := by
  have hf : FillKept s (s.setSeg i ((s.seg i).updHolds p f)) := fillKept_setSeg (.of_eq rfl rfl)
  refine ⟨fun m => memory_setSeg m _ _, fun m f' => f'.kept m.1 hf.acq, fun m c => ⟨fun j k => ?_, fun j => ?_⟩,
    fun _ m _ l => snapshotLaw_mark m.1 l rfl rfl fun e => ?_,
    fun _ m _ q => q.put m rfl rfl (q.used i) fun h => (q.flagged i h).resolve_right id⟩
  · have flag (j : Nat) : ((s.setSeg i ((s.seg i).updHolds p f)).acq.seg j).current = (s.acq.seg j).current := by
      rw [seg_setSeg m]
      split
      · next h => rw [h]; rfl
      · rfl
    rw [flag, flag]
    exact c.1 j k
  · rw [seg_setSeg m]
    split
    · next h => exact h ▸ c.2 i
    · exact c.2 j
  · rw [State.seg_eq, e]
    exact hb e

/-- What fills below K goes on to. -/
theorem FillsLow.setHolds {s : State} (m : MemoryLaw s) (h : FillsLow s) (i : Nat) (p : Port) (f : Nat → Nat) :
    FillsLow (s.setSeg i ((s.seg i).updHolds p f)) := by
  have hf : FillKept s (s.setSeg i ((s.seg i).updHolds p f)) := fillKept_setSeg (.of_eq rfl rfl)
  exact h.of_inner (inner_setSeg s i _) fun j => (hf.acq.seg m.1 j).1.1

/-- A port's hold keeps its segment. -/
theorem PartKept.addHold {shown : Prop} {s : State} {i : Nat} (hi : (s.acq.seg i).state = .complete) (p : Port)
    (implicit : Bool) : PartKept shown s (s.addHold p i implicit) := by
  refine .trans ⟨.setHolds fun e => ?_, fun m _ k => ⟨k.1.setHolds m i p _, fun j _ hj => ?_⟩⟩ (.updPort _ p _)
  · rw [e] at hi
    cases hi
  · have hseg := seg_setSeg m i ((s.seg i).updHolds p (· + 1)) j
    by_cases hji : j = i
    · subst hji
      rw [if_pos rfl] at hseg
      refine .inl ?_
      rw [hseg]
      cases p <;> simp [Seg.updHolds]
    · exact keptBut_setSeg m k.2 i _ j (by simp [hji]) hj

/-- A hold that is given back: the record's part. -/
def State.lessHold (s : State) (p : Port) (i : Nat) : State :=
  (s.setSeg i ((s.seg i).updHolds p (· - 1))).freeIfUnkept i

theorem dropHold_eq (s : State) (p : Port) (i : Nat) (implicit : Bool) : s.dropHold p i implicit
    = (s.lessHold p i).updPort p fun ps => { ps with holds := ps.holds.erase ⟨i, implicit⟩ } := by
  have swap (t : State) (f : PortState → PortState) : (t.updPort p f).freeIfUnkept i = (t.freeIfUnkept i).updPort p f := by
    have hc : ((t.updPort p f).seg i).state = .complete ∧ (t.updPort p f).kept i = false
        ↔ (t.seg i).state = .complete ∧ t.kept i = false := by cases p <;> rfl
    unfold State.freeIfUnkept
    simp only [hc]
    split
    · cases p <;> rfl
    · rfl
  exact swap _ _

theorem PartKept.lessHold (shown : Prop) (s : State) (p : Port) (i : Nat) : PartKept shown s (s.lessHold p i) where
  toPartFormed := .trans (.setHolds fun _ => by cases p <;> rfl)
    (PartKept.of_kept (.freeIfUnkept _ i) (fillKept_freeIfUnkept _ i)).toPartFormed
  kept := fun m _ k => by
    have m' := memory_setSeg m i ((s.seg i).updHolds p (· - 1))
    refine ⟨FillsLow.of_inner (k.1.setHolds m i p _) (inner_freeIfUnkept _ i)
      fun j => ((fillKept_freeIfUnkept _ i).acq.seg m'.1 j).1.1, ?_⟩
    exact (keptBut_freeIfUnkept m' (keptBut_setSeg m k.2 i _) i).mono fun j h => h.1.elim id h.2

theorem PartKept.dropHold (shown : Prop) (s : State) (p : Port) (i : Nat) (implicit : Bool) :
    PartKept shown s (s.dropHold p i implicit) := by
  rw [dropHold_eq]
  exact (PartKept.lessHold shown s p i).trans (.updPort _ p _)

end Sys2Proof.Machine
end

section
/-!
SUPPORT. The holds of the ports as they are taken and given back (R102, R103, R169, R173, R174).
-/

namespace Sys2Proof.Machine

theorem holdSound_updHolds {g : Seg} {p : Port} {f : Nat → Nat} (h : g.state = .complete) :
    HoldSound (g.updHolds p f) := fun _ => h

theorem portHolds_updHolds (g : Seg) (p q : Port) (f : Nat → Nat) :
    (g.updHolds p f).portHolds q = if q = p then f (g.portHolds q) else g.portHolds q := by
  cases p <;> cases q <;> rfl

theorem port_updPort_ite (s : State) (p q : Port) (f : PortState → PortState) :
    (s.updPort p f).port q = if q = p then f (s.port q) else s.port q := by cases p <;> cases q <;> rfl

/-- A COMPLETE segment takes one more hold of a port with fewer than four (R102). -/
theorem HoldsMatch.addHold {s : State} (m : MemoryLaw s) (h : HoldsMatch s) {i : Nat} {p : Port}
    (hi : (s.acq.seg i).state = .complete) (hl : (s.port p).holds.length < 4) (implicit : Bool) :
    HoldsMatch (s.addHold p i implicit) := by
  have hport (q : Port) : (s.addHold p i implicit).port q
      = if q = p then { s.port q with holds := (s.port q).holds ++ [⟨i, implicit⟩] } else s.port q := by
    rw [State.addHold, port_updPort_ite, State.port_setSeg]
  have hseg (j : Nat) : (s.addHold p i implicit).acq.seg j
      = if j = i then (s.acq.seg i).updHolds p (· + 1) else s.acq.seg j := seg_setSeg m i _ j
  refine ⟨fun q => ?_, fun q j => ?_, fun j => ?_⟩
  · rw [hport]
    split
    · next e => simpa [e] using hl
    · exact h.few q
  · rw [hport, hseg]
    by_cases hj : j = i
    · subst hj
      rw [if_pos rfl, portHolds_updHolds, h.count]
      split
      · simp [List.countP_append]
      · rfl
    · rw [if_neg hj, h.count]
      split
      · simp [List.countP_append, Ne.symm hj]
      · rfl
  · rw [hseg]
    split
    · exact holdSound_updHolds hi
    · exact h.sound j

/-- A port gives back one hold that it has (R102). -/
theorem HoldsMatch.dropHold {s : State} (m : MemoryLaw s) (h : HoldsMatch s) {i : Nat} {p : Port} {implicit : Bool}
    (hm : (⟨i, implicit⟩ : HoldEntry) ∈ (s.port p).holds) : HoldsMatch (s.dropHold p i implicit) := by
  have hc : (s.acq.seg i).state = .complete := by
    refine h.sound i (Nat.lt_of_lt_of_le ?_ (portHolds_le _ p))
    rw [h.count, List.countP_pos_iff]
    exact ⟨_, hm, by simp⟩
  have hport (q : Port) : ((s.setSeg i ((s.seg i).updHolds p (· - 1))).updPort p fun ps =>
      { ps with holds := ps.holds.erase ⟨i, implicit⟩ }).port q
      = if q = p then { s.port q with holds := (s.port q).holds.erase ⟨i, implicit⟩ } else s.port q := by
    rw [port_updPort_ite, State.port_setSeg]
  have hseg (j : Nat) : ((s.setSeg i ((s.seg i).updHolds p (· - 1))).updPort p fun ps =>
      { ps with holds := ps.holds.erase ⟨i, implicit⟩ }).acq.seg j
      = if j = i then (s.acq.seg i).updHolds p (· - 1) else s.acq.seg j := seg_setSeg m i _ j
  have less : HoldsMatch ((s.setSeg i ((s.seg i).updHolds p (· - 1))).updPort p fun ps =>
      { ps with holds := ps.holds.erase ⟨i, implicit⟩ }) := by
    refine ⟨fun q => ?_, fun q j => ?_, fun j => ?_⟩
    · rw [hport]
      split
      · exact (List.length_erase_le).trans (h.few q)
      · exact h.few q
    · rw [hport, hseg]
      by_cases hj : j = i
      · subst hj
        rw [if_pos rfl, portHolds_updHolds, h.count]
        split
        · next e =>
          subst e
          simp [List.countP_erase, hm]
        · rfl
      · rw [if_neg hj, h.count]
        split
        · simp [List.countP_erase, Ne.symm hj]
        · rfl
    · rw [hseg]
      split
      · exact holdSound_updHolds hc
      · exact h.sound j
  have mt : MemoryLaw ((s.setSeg i ((s.seg i).updHolds p (· - 1))).updPort p fun ps =>
      { ps with holds := ps.holds.erase ⟨i, implicit⟩ }) :=
    (PartKept.updPort (shown := True) _ p _).memory (memory_setSeg m i _)
  exact less.same ((RecordsKept.freeIfUnkept (shown := True) _ i).holds mt) fun q =>
    ((inner_freeIfUnkept _ i).outKept q).1

theorem holds_dropHold (s : State) (p : Port) (i : Nat) (implicit : Bool) (q : Port) : (s.dropHold p i implicit).port q
    = if q = p then { s.port q with holds := (s.port q).holds.erase ⟨i, implicit⟩ } else s.port q := by
  have free (t : State) : (t.freeIfUnkept i).port q = t.port q := by
    unfold State.freeIfUnkept
    split
    · exact State.port_freeSeg t i q
    · rfl
  rw [State.dropHold, free, port_updPort_ite, State.port_setSeg]

/-- Every hold of a port is given back (R174). -/
theorem HoldsMatch.releaseAll {s : State} (m : MemoryLaw s) (h : HoldsMatch s) (p : Port) :
    HoldsMatch (s.releaseAll p) ∧ ∀ q, (s.releaseAll p).port q
      = if q = p then { s.port q with holds := [] } else s.port q := by
  unfold State.releaseAll
  generalize hl : (s.port p).holds = l
  induction l generalizing s with
  | nil =>
    refine ⟨h, fun q => ?_⟩
    split
    · next e =>
      subst e
      exact congrArg (fun hs => { s.port q with holds := hs }) hl
    · rfl
  | cons e l ih =>
    have hport := holds_dropHold s p e.seg e.implicit
    have hrest : ((s.dropHold p e.seg e.implicit).port p).holds = l := by
      rw [hport, if_pos rfl, hl]
      exact List.erase_cons_head _ _
    obtain ⟨ht, hq⟩ := ih ((PartKept.dropHold True s p e.seg e.implicit).memory m)
      (h.dropHold m (by rw [hl]; exact List.mem_cons_self)) hrest
    refine ⟨ht, fun q => (hq q).trans ?_⟩
    rw [hport]
    split <;> rfl

theorem filter_erase_explicit (l : List HoldEntry) (i : Nat) :
    ((l.erase ⟨i, false⟩).filter fun h => h.implicit) = l.filter fun h => h.implicit := by
  induction l with
  | nil => rfl
  | cons e l ih =>
    rw [List.erase_cons]
    split
    · next he =>
      rw [List.filter_cons, if_neg]
      rw [beq_iff_eq.1 he]
      simp
    · rw [List.filter_cons, List.filter_cons, ih]

theorem filter_erase_implicit (l : List HoldEntry) (i : Nat) :
    ((l.erase ⟨i, true⟩).filter fun h => h.implicit) = (l.filter fun h => h.implicit).erase ⟨i, true⟩ := by
  induction l with
  | nil => rfl
  | cons e l ih =>
    rw [List.erase_cons]
    split
    · next he =>
      rw [beq_iff_eq.1 he, List.filter_cons]
      simp
    · next he =>
      rw [List.filter_cons, List.filter_cons, ih]
      split
      · rw [List.erase_cons, if_neg he]
      · rfl

end Sys2Proof.Machine
end

section
/-!
SUPPORT. The acts of the part over `LawsKept`: what `PartKept` says, a renderer at rest, and the holds.
-/

namespace Sys2Proof.Machine

/-! ## A renderer at rest (R107) -/

theorem Resting.of_rend {s t : State} (h : Resting s) (hr : t.rend = s.rend) : Resting t := by
  unfold Resting
  rw [hr]
  exact h

theorem resting_resume {s : State} (m : MemoryLaw s) (q : QueueLaws s) : Resting s.resume :=
  ((renderQueueLaw_iff _).1 (q.resume m)).2

/-- The state after an arm, as far as the renderer goes, is the state before it. -/
theorem resting_arm {s : State} (q : QueueLaws s) (h : Resting s) : Resting s.arm := h.of_rend (rend_arm q)

theorem rend_retryWait {s : State} (q : QueueLaws s) : s.retryWait.rend = s.rend := by
  unfold State.retryWait
  split
  · exact rend_arm q
  · rfl

theorem rend_tellSettled {s : State} (q : QueueLaws s) : s.tellSettled.rend = s.rend := by
  unfold State.tellSettled
  split
  · exact rend_arm q
  · rfl

theorem queueLaws_resume {s : State} (m : MemoryLaw s) (q : QueueLaws s) : QueueLaws s.resume :=
  ((renderQueueLaw_iff _).1 (q.resume m)).1

theorem resting_finishAct {s : State} (m : MemoryLaw s) (q : QueueLaws s) : Resting s.finishAct :=
  (resting_resume m q).of_rend (rend_retryWait (queueLaws_resume m q))

theorem resting_resume_arm {s : State} (m : MemoryLaw s) (q : QueueLaws s) : Resting s.resume.arm :=
  resting_arm (queueLaws_resume m q) (resting_resume m q)

/-! ## The relation -/

/-- An act that keeps the laws of the segment store, the renderer and the holds. -/
structure LawsKept (shown : Prop) (s t : State) : Prop extends PartKept shown s t where
  rest : shown → MemoryLaw s → CurrentLaw s.acq → QueueLaws s → Resting s → Resting t
  holds : MemoryLaw s → HoldLaw s → HoldLaw t

namespace LawsKept

variable {shown : Prop}

theorem refl (s : State) : LawsKept shown s s := ⟨.refl s, fun _ _ _ _ => id, fun _ => id⟩

theorem trans {s t u : State} (h : LawsKept shown s t) (k : LawsKept shown t u) : LawsKept shown s u :=
  ⟨h.toPartKept.trans k.toPartKept,
    fun p m c q r => k.rest p (h.memory m) (h.current m c) (h.queue p m c q) (h.rest p m c q r),
    fun m l => k.holds (h.memory m) (h.holds m l)⟩

theorem ite {s t u : State} {c : Prop} [Decidable c] (h : LawsKept shown s t) (k : LawsKept shown s u) :
    LawsKept shown s (if c then t else u) := by split <;> assumption

theorem foldl {α : Type} {f : State → α → State} (h : ∀ s a, LawsKept shown s (f s a)) (l : List α) (s : State) :
    LawsKept shown s (l.foldl f s) := by
  induction l generalizing s with
  | nil => exact .refl s
  | cons a l ih => exact (h s a).trans (ih _)

/-- What is done beside the segment store and the renderer. -/
theorem beside {s t : State} (h : (t.acq, t.rend, t.straps, t.setup.recs) = (s.acq, s.rend, s.straps, s.setup.recs))
    (hm : OtherMemory s → OtherMemory t) (hp : ∀ p, OutKept (s.port p) (t.port p)) : LawsKept shown s t := by
  have hacq : t.acq = s.acq := congrArg Prod.fst h
  have hrend : t.rend = s.rend := congrArg (fun x => x.2.1) h
  exact ⟨.beside h hm, fun _ _ _ _ r => r.of_rend hrend,
    fun _ l => l.outKept (fun i hs => by rw [hacq]; exact ⟨rfl, rfl, hs⟩) hp⟩

/-- What is done beside the segment store, the renderer, the memories and the ports. -/
theorem regs {s t : State}
    (h : (t.acq, t.rend, t.straps, t.setup.recs, t.comp, t.store, t.portA, t.portB)
      = (s.acq, s.rend, s.straps, s.setup.recs, s.comp, s.store, s.portA, s.portB)) : LawsKept shown s t := by
  simp only [Prod.mk.injEq] at h
  obtain ⟨h1, h2, h3, h4, h5, h6, h7, h8⟩ := h
  refine beside (by rw [h1, h2, h3, h4]) (fun m => ?_) fun p => ?_
  · rw [OtherMemory, h5, h6]
    exact m
  · cases p
    · exact .of_eq (by rw [State.port, State.port, h7])
    · exact .of_eq (by rw [State.port, State.port, h8])

/-- An operation of the inner blocks. -/
theorem of_store {s t : State} (h : StoreKept shown shown s t) (hf : OneFills s → OneFills t)
    (hr : shown → MemoryLaw s → CurrentLaw s.acq → QueueLaws s → Resting s → Resting t) : LawsKept shown s t :=
  ⟨.of_store h hf, hr, fun m l => l.outKept (h.holds m) h.inner.outKept⟩

/-- An operation of the inner blocks that leaves the renderer and what fills alone. -/
theorem of_fill {s t : State} (h : StoreKept shown shown s t) (hf : FillKept s t) (hr : t.rend = s.rend) :
    LawsKept shown s t := of_store h (fun o => o.kept hf) fun _ _ _ _ r => r.of_rend hr

theorem updPort (s : State) {p : Port} {f : PortState → PortState} (h : OutKept (s.port p) (f (s.port p))) :
    LawsKept shown s (s.updPort p f) := by
  refine beside rfl id fun q => ?_
  rw [port_updPort_ite]
  split
  · next e => exact e ▸ h
  · exact .refl _

theorem post (s : State) (n : Notice) : LawsKept shown s (s.post n) :=
  beside rfl id fun p => (Inner.post s n).outKept p

/-- A response to a request that gives no data. -/
theorem respond (s : State) {p : Port} (hl : (s.port p).link ≠ .responding ∧ (s.port p).link ≠ .dataOut) (c : Code)
    (ws : List Word) : LawsKept shown s (s.respond p c ws) := by
  unfold State.respond State.respondLost
  exact updPort s (.idle hl rfl (.inl rfl))

/-- A response with data that needs no hold. -/
theorem respondOut (s : State) {p : Port} (hl : (s.port p).link ≠ .responding ∧ (s.port p).link ≠ .dataOut) (c : Code)
    (ws : List Word) {d : DataOut} (hd : heldFor (some d) = []) : LawsKept shown s (s.respondOut p c ws d) := by
  refine updPort s ⟨rfl, fun k => ⟨?_, fun _ => .inl rfl⟩⟩
  have h := k.1
  rw [k.none hl] at h
  exact h.trans hd.symm

/-! ## The front end, the trigger unit and the run modes -/

/-- The front end moves, and nothing else. -/
theorem frontEnd (s : State) (f : FrontEnd) : LawsKept shown s { s with fe := f } := regs rfl

theorem feArbitrate (s : State) : LawsKept shown s s.feArbitrate := by
  rw [feArbitrate_eq]
  exact frontEnd s _

theorem tellSettled (s : State) : LawsKept shown s s.tellSettled :=
  of_store (.tellSettled s) .tellSettled fun _ _ _ q r => r.of_rend (rend_tellSettled q)

theorem retryWait (s : State) : LawsKept shown s s.retryWait :=
  of_store (.retryWait s) .retryWait fun _ _ _ q r => r.of_rend (rend_retryWait q)

theorem feFinish (s : State) : LawsKept shown s s.feFinish := (feArbitrate s).trans (tellSettled _)

theorem flagFault (s : State) (n : Nat) : LawsKept shown s (s.flagFault n) := by
  refine of_fill (.flagFault s n) (fillKept_flagFault s n) ?_
  unfold State.flagFault
  split
  · split <;> rfl
  · rfl

theorem feMismatch (s : State) (n : Nat) : LawsKept shown s (s.feMismatch n) :=
  ite (frontEnd s _) (((frontEnd s _).trans (flagFault _ n)).trans (post _ _))

theorem takeTrigger {s : State} (h : s.acq.state.fills = true) (auto : Bool) : LawsKept shown s (s.takeTrigger auto) :=
  of_fill (.takeTrigger s auto) (fillKept_takeTrigger h auto) (rend_takeTrigger s auto)

theorem force (s : State) : LawsKept shown s s.force := by
  refine of_fill (.force s) (fillKept_force s) ?_
  unfold State.force
  split
  · rfl
  · exact rend_takeTrigger s false
  · rfl

/-- What ends every act that may have freed a segment or ended a render. -/
theorem finishAct {s t : State} (h : PartKept shown s t)
    (hh : MemoryLaw s → HoldLaw s → HoldLaw t.finishAct) : LawsKept shown s t.finishAct :=
  ⟨h.trans (.of_store (.finishAct t) .finishAct), fun p m c q _ => resting_finishAct (h.memory m) (h.queue p m c q), hh⟩

/-- An operation of the inner blocks that ends so. -/
theorem finished {s t : State} (h : StoreKept shown shown s t) (hf : OneFills s → OneFills t) :
    LawsKept shown s t.finishAct :=
  finishAct (.of_store h hf) fun m l => l.outKept ((h.trans (.finishAct t)).holds m) (h.inner.trans (inner_finishAct t)).outKept

theorem runControl (s : State) (x : RunMode) : LawsKept shown s (s.runControl x) := by
  refine of_store (.runControl s x) (fun h => h.runControl x) fun p m c q r => ?_
  have activated (x : RunMode) : Resting (s.toActive x) := by
    unfold State.toActive
    split
    · have k : StoreKept shown shown s ((s.clearChanged.setMode x).emptySequence) :=
        ((StoreKept.clearChanged s).trans (.setMode _ x)).trans (.emptySequence _)
      exact resting_resume_arm (k.memory m) (k.queue p m c q)
    · have k : StoreKept shown shown s ((s.setMode x).emptySequence) := (StoreKept.setMode s x).trans (.emptySequence _)
      exact resting_finishAct (k.memory m) (k.queue p m c q)
  unfold State.runControl
  split
  · exact r
  · cases x with
    | stop => exact r.of_rend (rend_abandonFilling m q)
    | run => exact activated _
    | single => exact activated _
    | sequence =>
      have k : StoreKept shown shown s
          (((if s.acq.mode = .stop then s else s.enterStop).clearChanged.setMode .sequence).startSequence) :=
        (((StoreKept.ite (c := s.acq.mode = .stop) (.refl s) (.enterStop s)).trans (.clearChanged _)).trans
          (.setMode _ .sequence)).trans (.startSequence _)
      exact resting_resume_arm (k.memory m) (k.queue p m c q)

/-! ## Samples -/

end LawsKept

theorem rend_pretrigSample (s : State) (i : Nat) (cs : List Byte) : (s.pretrigSample i cs).rend = s.rend := by
  rw [pretrigSample_eq]
  split
  · exact rend_passToReady _
  · rfl

theorem rend_overwriteOldest (s : State) (i : Nat) (cs : List Byte) : (s.overwriteOldest i cs).rend = s.rend := by
  unfold State.overwriteOldest
  dsimp only
  split <;> rfl

theorem rend_timed (s : State) (i : Nat) : (s.timed i).rend = s.rend := by
  unfold State.timed
  split <;> rfl

/-- Every completion lets the renderer go on (R97 to R99). -/
theorem resting_complete {shown : Prop} {s : State} {i : Nat} (p : shown) (m : MemoryLaw s) (c : CurrentLaw s.acq)
    (q : QueueLaws s) (hi : (s.acq.seg i).state = .filling) : Resting (s.complete i) := by
  have done {t : State} (k : StoreKept shown shown s t) : Resting t.finishAct :=
    resting_finishAct (k.memory m) (k.queue p m c q)
  have announced : StoreKept shown shown s (s.announce i) := .announce fun _ => hi
  unfold State.complete
  split
  · exact done (announced.trans (.endRun _))
  · next hm => exact done (.continueAnnounced (fun _ => hi) hm)
  · exact done (announced.trans (.arm _))

namespace LawsKept

variable {shown : Prop}

theorem keptSample (s : State) (cs : List Byte) (ext : Bool) : LawsKept shown s (s.keptSample cs ext) := by
  refine of_store (.keptSample s cs ext) (fun h => h.keptSample cs ext) fun p m c q r => ?_
  unfold State.keptSample
  split
  · next i hi =>
    have hf : (s.acq.seg i).state = .filling := Acq.filling_of_fillingIdx m.1 hi
    have posted {t : State} (k : StoreKept shown shown s t) (ht : (t.acq.seg i).state = .filling) (hr : t.rend = s.rend) :
        Resting (t.postSample i cs) := by
      have mt := k.memory m
      have ends {u : State} (ku : StoreKept shown shown t u) (hu : (u.acq.seg i).state = .filling) :
          Resting (u.complete i) :=
        resting_complete p (ku.memory mt) (ku.current mt (k.current m c)) (ku.queue p mt (k.current m c) (k.queue p m c q))
          hu
      have fills : ((t.timed i).acq.seg i).state = .filling := by rw [seg_timed mt, if_pos rfl]; exact ht
      rw [postSample_eq]
      split
      · exact ends (.timed fun _ => ht) fills
      · split
        · exact ends (.postStored (fun _ => ht) cs) fills
        · exact r.of_rend ((rend_timed t i).trans hr)
    unfold State.takeSample
    split
    · exact r.of_rend (rend_pretrigSample (s.tracked i cs ext) i cs)
    · split
      · exact posted ((StoreKept.tracked s i cs ext).trans (.takeTrigger _ _)) hf (rend_takeTrigger (s.tracked i cs ext) _)
      · exact r.of_rend (rend_overwriteOldest (s.tracked i cs ext) i cs)
    · exact posted (.tracked s i cs ext) hf rfl
    · exact r
  · exact r

end LawsKept

end Sys2Proof.Machine
end

section
/-!
SUPPORT. An applied change over `LawsKept`: RECORD_LENGTH may lower K, and what a restart abandons leaves nothing above it
(R12 to R17, R85 to R87); the renderer's acts; and the acts that take and give back holds.
-/

namespace Sys2Proof.Machine

/-! ## An applied change -/

/-- A field that a change does not alter keeps its value. -/
theorem val_newRecs_of_eq {m : Setup} {f : Nat → Int} {id : Nat} (h : f id = m.val id) (src : Source)
    (g h' : BitVec 32) : Setup.val { m with recs := newRecs m.recs f src g, gen := h' } id = m.val id := by
  unfold Setup.val at h ⊢
  rw [find_newRecs]
  cases hf : m.recs.find? (fun q => q.id == id) with
  | none => rfl
  | some r =>
    have hr : r.id = id := by simpa using List.find?_some hf
    rw [hf] at h
    simp only [Option.map_some, Option.getD_some] at h ⊢
    split
    · next hne => exact absurd (hr ▸ h) hne
    · rfl

theorem inner_recordChange (s : State) (src : Source) (f : Nat → Int) : Inner { s with setup := { s.setup with
    recs := newRecs s.setup.recs f src (nextGen s.setup.gen), gen := nextGen s.setup.gen } } (s.recordChange src f) :=
  inner_postAll _ _

theorem rend_recordChange (s : State) (src : Source) (f : Nat → Int) : (s.recordChange src f).rend = s.rend := by
  have posted (ns : List Notice) (t : State) : (t.postAll ns).rend = t.rend := by
    induction ns generalizing t with
    | nil => rfl
    | cons n ns ih => exact ih (t.post n)
  exact posted _ _

/-- RECORD_LENGTH is an ACQ field of every part. -/
theorem classOf_recordLength (st : Straps) : classOf st fidRecordLength = some .acq := by
  obtain ⟨c, d, p⟩ := st
  cases c <;> cases d <;> cases p <;> rfl

/-- K stays where a change does not alter RECORD_LENGTH (R85). -/
theorem slots_recordChange {s : State} {src : Source} {f : Nat → Int} (h : fidRecordLength ∉ s.altered f) :
    (s.recordChange src f).slots = s.slots := by
  have hf : f fidRecordLength = s.setup.val fidRecordLength := by
    by_contra hne
    exact h (List.mem_filter.2 ⟨mem_presentIds_of_class (classOf_recordLength s.straps), decide_eq_true hne⟩)
  have hi := inner_recordChange s src f
  rw [slots_of_inner hi]
  unfold State.slots State.recordLength
  rw [State.fieldVal_eq, State.fieldVal_eq, val_newRecs_of_eq hf]

/-- After a change of RECORD_LENGTH every COMPLETE segment is kept: what lies at or above the new K is held, or has been
freed (R14, R87). -/
theorem allKept_freeAboveK {s : State} (m : MemoryLaw s) {src : Source} {f : Nat → Int} (k : AllKept s) :
    AllKept ((s.recordChange src f).freeAboveK (s.altered f)) := by
  obtain ⟨-, ha, -⟩ := frame_recordChange s src f
  have hm : MemoryLaw (s.recordChange src f) := by
    have hi := inner_recordChange s src f
    rw [MemoryLaw, ha, rend_recordChange, hi.comp, hi.store]
    exact m
  unfold State.freeAboveK
  split
  · have above : KeptBut (fun i => (s.recordChange src f).slots ≤ i ∧ (s.acq.seg i).holds = 0) (s.recordChange src f) := by
      intro i hd hc
      rw [ha] at hc
      rcases k i id hc with hh | ⟨-, hr⟩
      · exact .inl (by rw [ha]; exact hh)
      · by_cases hlt : i < (s.recordChange src f).slots
        · exact .inr ⟨hlt, by rw [ha]; exact hr⟩
        · refine .inl (Nat.pos_of_ne_zero fun h0 => hd ⟨Nat.le_of_not_lt hlt, ?_⟩)
          rwa [ha] at h0
    have freed := keptBut_freeUnheld hm above ((s.recordChange src f).acq.usedIdx.filter fun i =>
      decide ((s.recordChange src f).slots ≤ i))
    refine fun i _ hc => freed i (fun ⟨hle, h0⟩ => ?_) hc
    have hseg := seg_freeUnheld hm ((s.recordChange src f).acq.usedIdx.filter fun i =>
      decide ((s.recordChange src f).slots ≤ i)) i
    rw [hseg] at hc
    split at hc
    · cases hc
    · next hn =>
      refine hn ⟨List.mem_filter.2 ⟨List.mem_map.2 ⟨_, Acq.mem_segs (i := i) (by rw [hc]; simp), rfl⟩, by simpa using hle⟩, hc, ?_⟩
      rw [ha]
      exact h0
  · next hn =>
    refine k.alike (fun j => by rw [ha]; rfl) (slots_recordChange fun hm => hn (List.contains_iff_mem.2 hm)) (by rw [ha])

/-- An applied change keeps what keeps a segment, and what fills lies below the new K (R13, R14, R85, R87). -/
theorem keptInv_applyValues {s : State} (m : MemoryLaw s) (o : FillingOne s.acq) (k : KeptInv s) (src : Source)
    (f : Nat → Int) : KeptInv (s.applyValues src f) := by
  unfold State.applyValues
  split
  · exact k
  · obtain ⟨-, ha, hst⟩ := frame_recordChange s src f
    have hi := inner_recordChange s src f
    have mu : MemoryLaw (s.recordChange src f) := by
      rw [MemoryLaw, ha, rend_recordChange, hi.comp, hi.store]
      exact m
    have ku := allKept_freeAboveK m k.2 (src := src) (f := f)
    have one : OneFills ((s.recordChange src f).freeAboveK (s.altered f)) :=
      OneFills.kept ⟨mu.1, ha ▸ o⟩ (fillKept_freeAboveK _ _)
    have lowStays (hn : fidRecordLength ∉ s.altered f) : FillsLow ((s.recordChange src f).freeAboveK (s.altered f)) := by
      refine (StoreKept.freeAboveK (shown := True) (calm := True) _ _).low mu fun i h => ?_
      rw [slots_recordChange hn]
      exact k.1 i (by rwa [ha] at h)
    generalize hv : (s.recordChange src f).freeAboveK (s.altered f) = v at ku one lowStays
    have mv : MemoryLaw v := hv ▸ (StoreKept.freeAboveK (shown := True) (calm := True) _ _).memory mu
    have hrq := inner_requestUpdates v (s.altered f)
    have aw := acq_requestUpdates v (s.altered f)
    have mw := (StoreKept.requestUpdates (shown := True) (calm := True) v (s.altered f)).memory mv
    rw [State.dispose, hv]
    generalize v.requestUpdates (s.altered f) = w at hrq aw mw
    have kw : AllKept w := ku.alike (fun j => by rw [aw]; rfl) (slots_of_inner hrq) (by rw [aw])
    have onew : OneFills w := ⟨aw ▸ one.wf, aw ▸ one.one⟩
    have low : FillsLow (w.disposeAcq (s.altered f)) := by
      cases hc : hasClass w.straps (s.altered f) .acq with
      | true => exact fun i h => absurd h (onew.noFilling_disposeAcq hc i)
      | false =>
        have hn : fidRecordLength ∉ s.altered f := classOf_ne_acq hc (classOf_recordLength _)
        rw [State.disposeAcq, if_neg (by simp [hc])]
        exact (lowStays hn).of_inner hrq fun i h => by rwa [aw] at h
    have kept : AllKept (w.disposeAcq (s.altered f)) := by
      unfold State.disposeAcq
      split
      · split
        · exact kw.restart mw
        · exact kw
      · exact kw
    have md := (StoreKept.disposeAcq (shown := True) (calm := True) w (s.altered f)).memory mw
    have rest := StoreKept.disposeRest (shown := True) (calm := True) (w.disposeAcq (s.altered f)) (s.altered f)
    exact ⟨rest.low md low, rest.kept md low kept⟩

/-- A disposition of fields that are neither ACQ nor VIEW leaves the renderer alone (R15, R17); any other ends with the
renderer going on. -/
theorem resting_dispose {s : State} (m : MemoryLaw s) (c : CurrentLaw s.acq) (q : QueueLaws s) (r : Resting s)
    (ids : List Nat) : Resting (s.dispose ids) := by
  have chain : StoreKept True True s
      ((((((s.freeAboveK ids).requestUpdates ids).disposeAcq ids).disposeView ids).disposeTrigMode ids).disposeAux ids) :=
    (((((StoreKept.freeAboveK s ids).trans (.requestUpdates _ ids)).trans (.disposeAcq _ ids)).trans
      (.disposeView _ ids)).trans (.disposeTrigMode _ ids)).trans (.disposeAux _ ids)
  have straps := chain.inner.straps
  have mx := chain.memory m
  have qx := chain.queue trivial m c q
  unfold State.dispose State.disposeEnd
  rw [straps]
  split
  · exact resting_resume_arm mx qx
  · split
    · exact resting_finishAct mx qx
    · next hn =>
      have hcls : hasClass s.straps ids .acq = false ∧ hasClass s.straps ids .view = false := by simpa using hn
      obtain ⟨hacq, hview⟩ := hcls
      refine r.of_rend ?_
      have h1 : s.freeAboveK ids = s := if_neg fun h =>
        classOf_ne_acq hacq (classOf_recordLength _) (List.contains_iff_mem.1 h)
      have h2 : (s.requestUpdates ids).rend = s.rend := by
        unfold State.requestUpdates
        split
        · rfl
        · rw [feArbitrate_eq]
      have hst : (s.requestUpdates ids).straps = s.straps := (inner_requestUpdates s ids).straps
      have h3 : (s.requestUpdates ids).disposeAcq ids = s.requestUpdates ids := by
        rw [State.disposeAcq, hst, hacq]; rfl
      have h4 : (s.requestUpdates ids).disposeView ids = s.requestUpdates ids := by
        rw [State.disposeView, hst, hview]; rfl
      have h5 (t : State) : (t.disposeTrigMode ids).rend = t.rend := by unfold State.disposeTrigMode; split <;> rfl
      have h6 (t : State) : (t.disposeAux ids).rend = t.rend := by unfold State.disposeAux; split <;> rfl
      rw [h1, h3, h4, h6, h5, h2]

theorem LawsKept.applyValues {shown : Prop} (s : State) (src : Source) (f : Nat → Int) :
    LawsKept shown s (s.applyValues src f) := by
  rcases eq_or_ne (s.altered f) [] with he | hne
  · rw [State.applyValues, if_pos he]
    exact .refl s
  · have happ : s.applyValues src f = (s.recordChange src f).dispose (s.altered f) := if_neg hne
    obtain ⟨-, ha, -⟩ := frame_recordChange s src f
    have hr := rend_recordChange s src f
    have hi := inner_recordChange s src f
    have told : PartFormed shown s (s.recordChange src f) :=
      .beside ha hr fun h => by rw [OtherMemory, hi.comp, hi.store]; exact h
    have disposed : StoreKept shown shown (s.recordChange src f) (s.applyValues src f) := happ ▸ .dispose _ _
    have formed : PartFormed shown s (s.applyValues src f) :=
      told.trans ⟨disposed.memory, fun m o => happ ▸ ((OneFills.mk m.1 o).dispose _).one, disposed.current,
        disposed.snapshot, disposed.queue⟩
    refine ⟨⟨formed, fun m o k => keptInv_applyValues m o k src f⟩, fun p m c q r => ?_, fun m l => ?_⟩
    · rw [happ]
      exact resting_dispose (told.memory m) (told.current m c) (told.queue p m c q) (r.of_rend hr) _
    · refine l.outKept (fun i hs => ?_) fun p => ?_
      · have := disposed.holds (told.memory m) i (by rwa [ha])
        rwa [ha] at this
      · exact (hi.trans disposed.inner).outKept p

namespace LawsKept

variable {shown : Prop}

theorem change {s t : State} {src : Source} {pairs : List (Nat × Int)} {code : Code}
    (h : s.change src pairs = .ok (t, code)) : LawsKept shown s t := by
  unfold State.change at h
  split at h
  · simp at h
  · next f _ _ =>
    simp only [Except.ok.injEq, Prod.mk.injEq] at h
    exact h.1 ▸ applyValues s src f

/-! ## The renderer -/

theorem clearDisplay (s : State) : LawsKept shown s s.clearDisplay :=
  finished (.clearRasters s) fun h => h.kept (fillKept_clearRasters s)

/-- That every COMPLETE segment is kept holds the one that is shown (R87, R105). -/
theorem showSeg {s : State} {i : Nat} (hi : (s.acq.seg i).state = .complete) (hs : shown → AllKept s) :
    LawsKept shown s (s.showSeg i) :=
  finished (.shownSeg hi hs hs) fun h => h.kept (((fillKept_makeCurrent s i).trans (fillKept_clearRasters _)).trans
    (fillKept_handOff _ i))

theorem columnStep {s : State} {r : Render} (hr : s.rend.render = some r) (x : ChanMap) :
    LawsKept shown s (s.columnStep r x) := by
  refine of_store (.columnStep hr x) (fun h => h.kept (fillKept_columnStep s r x)) fun p m c q _ => ?_
  unfold State.columnStep
  dsimp only
  split
  · exact fun h => by simp at h
  · have k : StoreKept shown shown s _ := (StoreKept.drawn hr x).trans (.abandonRender _)
    exact resting_resume (k.memory m) (k.queue p m c q)

/-- A frame expiry told to the renderer: an idle one, with nothing waiting, takes the decay at once (R122, R123). -/
theorem tellDecay (s : State) : LawsKept shown s s.tellDecay := by
  have told : StoreKept shown shown s { s with rend := { s.rend with decayDue := true } } :=
    .alike (.regs (.update _ _ _ _ _ _) rfl) (fun _ _ => rfl) rfl rfl
  unfold State.tellDecay
  dsimp only
  split
  · next r hr => exact of_store told (fun h => h.kept (.beside rfl)) fun _ _ _ _ _ h => by rw [hr] at h; cases h
  · next hr =>
    refine of_store (told.trans (.consumeDecay _)) (fun h => h.kept (.beside rfl)) fun _ _ _ _ h _ => ?_
    exact ⟨(h hr).1, rfl⟩

/-! ## Holds taken and given back -/

/-- HOLD of a COMPLETE segment by a port with fewer than four (R102). -/
theorem addExplicit {s : State} {i : Nat} {p : Port} (hi : (s.acq.seg i).state = .complete)
    (hl : (s.port p).holds.length < 4) : LawsKept shown s (s.addHold p i false) := by
  refine ⟨.addHold hi p false, fun _ _ _ _ r => r.of_rend (by cases p <;> rfl), fun m l => ?_⟩
  rw [holdLaw_iff] at l ⊢
  refine ⟨l.1.addHold m hi hl false, fun q => ?_⟩
  rw [State.addHold, port_updPort_ite, State.port_setSeg]
  split
  · refine ⟨?_, (l.2 q).2⟩
    simpa using (l.2 q).1
  · exact l.2 q

/-- READ_WAVEFORM of a COMPLETE segment takes its implicit hold (R103). -/
theorem addImplicit {s : State} {i : Nat} {p : Port} (hp : (s.port p).link ≠ .responding ∧ (s.port p).link ≠ .dataOut)
    (hi : (s.acq.seg i).state = .complete) (hl : (s.port p).holds.length < 4) (c : Code) (ws : List Word)
    (n st k : Nat) : LawsKept shown s ((s.addHold p i true).respondOut p c ws (.waveform i n st k)) := by
  refine ⟨(PartKept.addHold hi p true).trans (.updPort _ p _), fun _ _ _ _ r => r.of_rend (by cases p <;> rfl),
    fun m l => ?_⟩
  rw [holdLaw_iff] at l ⊢
  have hport (q : Port) : ((s.addHold p i true).respondOut p c ws (.waveform i n st k)).port q
      = if q = p then (((s.addHold p i true).respondOut p c ws (.waveform i n st k)).port p) else s.port q := by
    split
    · next e => rw [e]
    · next e => rw [State.respondOut, port_updPort_ite, if_neg e, State.addHold, port_updPort_ite, if_neg e,
        State.port_setSeg]
  have hself : (((s.addHold p i true).respondOut p c ws (.waveform i n st k)).port p).holds
      = (s.port p).holds ++ [⟨i, true⟩] := by
    rw [State.respondOut, State.port_updPort, State.addHold, State.port_updPort, State.port_setSeg]
    rfl
  refine ⟨(l.1.addHold m hi hl true).same (fun j h => ⟨rfl, rfl, h⟩) fun q => ?_, fun q => ?_⟩
  · rw [State.respondOut, port_updPort_ite]
    split <;> rfl
  · rw [hport]
    split
    · refine ⟨?_, fun _ => .inl ?_⟩
      · have h0 := (l.2 p).1
        rw [(l.2 p).none hp] at h0
        rw [hself, List.filter_append, h0, State.respondOut, State.port_updPort]
        rfl
      · rw [State.respondOut, State.port_updPort]
    · exact l.2 q

/-- RELEASE of a hold that the port has (R102). -/
theorem release {s : State} {i : Nat} {p : Port} (hp : (s.port p).link ≠ .responding ∧ (s.port p).link ≠ .dataOut)
    (hi : (s.acq.seg i).portHolds p ≠ 0) : LawsKept shown s (s.dropHold p i false).finishAct := by
  refine finishAct (.dropHold shown s p i false) fun m l => ?_
  have mt := (PartKept.dropHold True s p i false).memory m
  rw [holdLaw_iff] at l
  have hmem : (⟨i, false⟩ : HoldEntry) ∈ (s.port p).holds := by
    have hpos : 0 < (s.port p).holds.countP fun h => h.seg == i := by rw [← l.1.count]; omega
    rw [List.countP_pos_iff] at hpos
    obtain ⟨⟨j, b⟩, hj, hji⟩ := hpos
    obtain rfl : j = i := by simpa using hji
    cases b with
    | false => exact hj
    | true =>
      have h0 := (l.2 p).1
      rw [(l.2 p).none hp] at h0
      exact absurd (List.mem_filter.2 ⟨hj, rfl⟩) (by rw [h0]; simp [heldFor])
  have dropped : HoldLaw (s.dropHold p i false) := by
    rw [holdLaw_iff]
    refine ⟨l.1.dropHold m hmem, fun q => ?_⟩
    rw [holds_dropHold]
    split
    · exact ⟨(filter_erase_explicit _ i).trans (l.2 q).1, (l.2 q).2⟩
    · exact l.2 q
  exact dropped.outKept ((RecordsKept.holds (StoreKept.finishAct (shown := True) (calm := True) _).toRecordsKept) mt)
    (inner_finishAct _).outKept

end LawsKept

end Sys2Proof.Machine
end

section
/-!
SUPPORT. The end of a request with data, the port reset, and every command over `LawsKept`.
-/

namespace Sys2Proof.Machine

/-! ## The memories beside the segment store -/

theorem otherMemory_endRead {s : State} (h : OtherMemory s) : OtherMemory { s with comp := s.comp.endRead } := by
  obtain ⟨h1, h2, h3⟩ := h
  unfold OtherMemory Compositor.endRead
  dsimp only
  split
  · exact ⟨h2, h1, h3⟩
  · exact ⟨h1, h2, h3⟩

theorem otherMemory_endBuild {s : State} (h : OtherMemory s) : OtherMemory { s with comp := s.comp.endBuild } := by
  obtain ⟨h1, h2, h3⟩ := h
  unfold OtherMemory Compositor.endBuild
  dsimp only
  split
  · exact ⟨h2, h1, h3⟩
  · exact ⟨h1, h2, h3⟩

/-- A port's overlay changes, and its plane keeps its form. -/
theorem otherMemory_updOverlay {s : State} (p : Port) {f : Overlay → Overlay}
    (hf : ∀ o : Overlay, Cells.wf (0 : BitVec 4) o.plane = true → Cells.wf (0 : BitVec 4) (f o).plane = true)
    (h : OtherMemory s) : OtherMemory { s with comp := s.comp.updOverlay p f } := by
  obtain ⟨h1, h2, h3, h4, h5⟩ := h
  refine ⟨h1, h2, ?_, ?_, h5⟩
  · change Cells.wf 0 (if p = .a then f s.comp.ovA else s.comp.ovA).plane = true
    split
    · exact hf _ h3
    · exact h3
  · change Cells.wf 0 (if p = .b then f s.comp.ovB else s.comp.ovB).plane = true
    split
    · exact hf _ h4
    · exact h4

theorem wf_putRectPixel {m : Cells (BitVec 4)} (h : Cells.wf (0 : BitVec 4) m = true) (x y : Int) (w p : Nat)
    (i : BitVec 4) : Cells.wf (0 : BitVec 4) (putRectPixel x y w m p i) = true := by
  unfold putRectPixel putPixel
  split
  · exact Cells.wf_put h _ _
  · exact h

theorem wf_putPixels {m : Cells (BitVec 4)} (h : Cells.wf (0 : BitVec 4) m = true) (x y : Int) (w total p : Nat)
    (is : List (BitVec 4)) : Cells.wf (0 : BitVec 4) (putPixels x y w total m p is) = true := by
  induction is generalizing m p with
  | nil => exact h
  | cons i is ih =>
    refine ih ?_ _
    split
    · exact wf_putRectPixel h x y w p i
    · exact h

theorem wf_fillRect {o : Overlay} (h : Cells.wf (0 : BitVec 4) o.plane = true) (x y : Int) (w k : Nat) (i : BitVec 4) :
    Cells.wf (0 : BitVec 4) (fillRect x y w k i o).plane = true := by
  have filled (l : List Nat) {m : Cells (BitVec 4)} (hm : Cells.wf (0 : BitVec 4) m = true) :
      Cells.wf (0 : BitVec 4) (l.foldl (fun m p => putRectPixel x y w m p i) m) = true := by
    induction l generalizing m with
    | nil => exact hm
    | cons p l ih => exact ih (wf_putRectPixel hm x y w p i)
  exact filled _ h

theorem wf_takeBurst {o : Overlay} (h : Cells.wf (0 : BitVec 4) o.plane = true) (ps : PortState) (r : Staged) (w : Word) :
    Cells.wf (0 : BitVec 4) (o.takeBurst ps r w).plane = true := by
  unfold Overlay.takeBurst
  split
  · exact wf_putPixels h _ _ _ _ _ _
  · exact h

/-- The flash changes, and keeps its form. -/
theorem otherMemory_store {s : State} {t : Store} (h : OtherMemory s)
    (hf : Cells.wf erasedWord s.store.flash = true → Cells.wf erasedWord t.flash = true) :
    OtherMemory { s with store := t } := ⟨h.1, h.2.1, h.2.2.1, h.2.2.2.1, hf h.2.2.2.2⟩

namespace LawsKept

variable {shown : Prop}

/-- The setup store moves, and nothing else. -/
theorem store {s : State} {t : Store}
    (hf : Cells.wf erasedWord s.store.flash = true → Cells.wf erasedWord t.flash = true) :
    LawsKept shown s { s with store := t } := beside rfl (fun h => otherMemory_store h hf) fun _ => .refl _

/-- The compositor moves, and nothing else. -/
theorem comp {s : State} {c : Compositor} (hc : OtherMemory s → OtherMemory { s with comp := c }) :
    LawsKept shown s { s with comp := c } := beside rfl hc fun _ => .refl _

/-! ## The end of a request with data (R169, R173) -/

end LawsKept

theorem partKept_giveBack (shown : Prop) (s : State) (p : Port) : PartKept shown s (s.giveBack p) := by
  unfold State.giveBack
  split
  · exact (PartKept.dropHold shown s p _ true).trans (.of_store (.finishAct _) .finishAct)
  · exact .beside rfl otherMemory_endRead
  · exact .refl s

/-- What a request with data holds is given back: the port's implicit hold is gone. -/
theorem HoldLaw.giveBack {s : State} (m : MemoryLaw s) (l : HoldLaw s) (p : Port) : HoldsMatch (s.giveBack p)
    ∧ (((s.giveBack p).port p).holds.filter fun h => h.implicit) = [] ∧ ∀ q, q ≠ p → OutSound ((s.giveBack p).port q) := by
  rw [holdLaw_iff] at l
  have himp := (l.2 p).1
  unfold State.giveBack
  split
  · next i n st k ho =>
    rw [ho] at himp
    have hmem : (⟨i, true⟩ : HoldEntry) ∈ (s.port p).holds :=
      (List.mem_filter.1 (show (⟨i, true⟩ : HoldEntry) ∈ (s.port p).holds.filter fun h => h.implicit by
        rw [himp]; exact List.mem_singleton.2 rfl)).1
    have mt := (PartKept.dropHold True s p i true).memory m
    have hin := inner_finishAct (s.dropHold p i true)
    have hsame := (StoreKept.finishAct (shown := True) (calm := True) (s.dropHold p i true)).holds mt
    refine ⟨(l.1.dropHold m hmem).same hsame fun q => (hin.outKept q).1, ?_, fun q hq => (hin.outKept q).2 ?_⟩
    · rw [(hin.outKept p).1, holds_dropHold, if_pos rfl]
      refine (filter_erase_implicit _ i).trans ?_
      rw [himp]
      exact List.erase_cons_head _ _
    · rw [holds_dropHold, if_neg hq]
      exact l.2 q
  · next ho => exact ⟨l.1.same (fun _ h => ⟨rfl, rfl, h⟩) fun _ => rfl, by rw [ho] at himp; exact himp, fun q _ => l.2 q⟩
  · next h1 h2 =>
    refine ⟨l.1, himp.trans ?_, fun q _ => l.2 q⟩
    unfold heldFor
    split
    · next h => exact absurd h (h1 _ _ _ _)
    · rfl

namespace LawsKept

variable {shown : Prop}

/-- A request with data ends: what it holds is given back, and no data is left to give. -/
theorem giveBackEnds (s : State) (p : Port) {f : PortState → PortState}
    (hf : ∀ ps, (f ps).holds = ps.holds ∧ (f ps).out = none) : LawsKept shown s ((s.giveBack p).updPort p f) := by
  refine ⟨(partKept_giveBack shown s p).trans (.updPort _ p f), fun sh m c q r => ?_, fun m l => ?_⟩
  · refine Resting.of_rend (s := s.giveBack p) ?_ (by cases p <;> rfl)
    unfold State.giveBack
    split
    · next i _ _ _ _ =>
      have k := PartKept.dropHold shown s p i true
      exact resting_finishAct (k.memory m) (k.queue sh m c q)
    · exact r
    · exact r
  · obtain ⟨hm, himp, hothers⟩ := l.giveBack m p
    rw [holdLaw_iff]
    refine ⟨hm.same (fun _ h => ⟨rfl, rfl, h⟩) fun q => ?_, fun q => ?_⟩
    · rw [port_updPort_ite]
      split
      · next e => exact (hf _).1
      · rfl
    · rw [port_updPort_ite]
      split
      · next e =>
        subst e
        refine ⟨?_, fun hne => absurd (hf _).2 hne⟩
        rw [(hf _).1, (hf _).2, himp]
        rfl
      · next hq => exact hothers q hq

theorem abort (s : State) (p : Port) : LawsKept shown s (s.abort p) := by
  unfold State.abort
  split
  · exact refl s
  · exact refl s
  · unfold State.respond State.respondLost
    exact giveBackEnds s p fun _ => ⟨rfl, rfl⟩

theorem readOut (s : State) (p : Port) (d : DataOut) : LawsKept shown s (s.readOut p d) :=
  ite (ite (updPort s (.of_eq rfl)) (updPort s (.of_eq rfl)))
    (ite (updPort s (.of_eq rfl)) (giveBackEnds s p fun _ => ⟨rfl, rfl⟩))

theorem endLock (s : State) : LawsKept shown s s.endLock :=
  beside rfl id fun p => (Inner.post { s with setup := { s.setup with holder := none, localDisabled := false } } _).outKept p

/-- A port reset (R174). -/
theorem portReset (s : State) (p : Port) : LawsKept shown s
    (State.finishAct (if s.setup.holder = some p
      then ((((s.giveBackScreen p).releaseAll p).resetOverlay p).updPort p PortState.reset).endLock
      else (((s.giveBackScreen p).releaseAll p).resetOverlay p).updPort p PortState.reset)) := by
  have screen : PartKept shown s (s.giveBackScreen p)
      ∧ (∀ i, (s.giveBackScreen p).acq.seg i = s.acq.seg i) ∧ ∀ q, (s.giveBackScreen p).port q = s.port q := by
    unfold State.giveBackScreen
    split
    · exact ⟨.beside rfl otherMemory_endRead, fun _ => rfl, fun q => by cases q <;> rfl⟩
    · exact ⟨.refl s, fun _ => rfl, fun _ => rfl⟩
  obtain ⟨kept1, seg1, port1⟩ := screen
  have kept2 : PartKept shown (s.giveBackScreen p) ((s.giveBackScreen p).releaseAll p) := by
    unfold State.releaseAll
    generalize ((s.giveBackScreen p).port p).holds = l
    generalize s.giveBackScreen p = t
    induction l generalizing t with
    | nil => exact .refl t
    | cons e l ih => exact (PartKept.dropHold shown t p e.seg e.implicit).trans (ih _)
  have kept3 (t : State) : PartKept shown t ((t.resetOverlay p).updPort p PortState.reset) :=
    .beside rfl (otherMemory_updOverlay p fun _ _ => rfl)
  have reset : PartKept shown s ((((s.giveBackScreen p).releaseAll p).resetOverlay p).updPort p PortState.reset) :=
    (kept1.trans kept2).trans (kept3 _)
  have law (m : MemoryLaw s) (l : HoldLaw s) :
      HoldLaw ((((s.giveBackScreen p).releaseAll p).resetOverlay p).updPort p PortState.reset) := by
    rw [holdLaw_iff] at l ⊢
    have l1 : HoldsMatch (s.giveBackScreen p) :=
      l.1.same (fun i h => by rw [seg1]; exact ⟨rfl, rfl, h⟩) fun q => by rw [port1]
    obtain ⟨l2, port2⟩ := l1.releaseAll (kept1.memory m) p
    have port3 (q : Port) : ((((s.giveBackScreen p).releaseAll p).resetOverlay p).updPort p PortState.reset).port q
        = if q = p then PortState.reset (((s.giveBackScreen p).releaseAll p).port q)
          else ((s.giveBackScreen p).releaseAll p).port q := by
      rw [port_updPort_ite]
      cases q <;> rfl
    refine ⟨l2.same (fun _ h => ⟨rfl, rfl, h⟩) fun q => ?_, fun q => ?_⟩
    · rw [port3]
      split
      · next e => rw [port2, if_pos e]; rfl
      · rfl
    · rw [port3]
      split
      · exact ⟨rfl, fun h => absurd rfl h⟩
      · next e =>
        rw [port2, if_neg e, port1]
        exact l.2 q
  have finish {t : State} (k : PartKept shown s t) (h : MemoryLaw s → HoldLaw s → HoldLaw t) :
      LawsKept shown s t.finishAct :=
    finishAct k fun m l => (h m l).outKept
      ((StoreKept.finishAct (shown := True) (calm := True) t).holds (k.memory m)) (inner_finishAct t).outKept
  split
  · exact finish (reset.trans (endLock _).toPartKept) fun m l => (endLock (shown := shown) _).holds (reset.memory m) (law m l)
  · exact finish reset law

end LawsKept

end Sys2Proof.Machine
end

section
/-!
SUPPORT. Every command and every step over `LawsKept`.
-/

namespace Sys2Proof.Machine

/-- The port's request is past no response: it gives no data (R164). -/
def Unanswered (ps : PortState) : Prop := ps.link ≠ .responding ∧ ps.link ≠ .dataOut

theorem Unanswered.of_eq {ps qs : PortState} (h : Unanswered ps) (hl : qs.link = ps.link) : Unanswered qs := by
  unfold Unanswered
  rw [hl]
  exact h

theorem link_change {s t : State} {src : Source} {pairs : List (Nat × Int)} {code : Code}
    (h : s.change src pairs = .ok (t, code)) (p : Port) : (t.port p).link = (s.port p).link := by
  unfold State.change at h
  split at h
  · simp at h
  · next f _ _ =>
    simp only [Except.ok.injEq, Prod.mk.injEq] at h
    obtain ⟨rfl, -⟩ := h
    rcases applyValues_inner s src f with ⟨-, he⟩ | ⟨-, hi⟩
    · rw [he]
    · exact (hi.link p).trans (by cases p <;> rfl)

namespace LawsKept

variable {shown : Prop}

/-- A response that ends an act: the request was not answered before, and the act left the port's link alone. -/
theorem responds {s t : State} {p : Port} (k : LawsKept shown s t) (hl : Unanswered (s.port p))
    (ht : (t.port p).link = (s.port p).link) (c : Code) (ws : List Word) : LawsKept shown s (t.respond p c ws) :=
  k.trans (respond t (hl.of_eq ht) c ws)

/-! ## The panel -/

theorem setTone (s : State) (t : Tone) : LawsKept shown s (s.setTone t) := regs rfl

theorem errorBeep (s : State) : LawsKept shown s s.errorBeep := regs rfl

theorem panelChange (s : State) (src : Source) (pairs : List (Nat × Int)) : LawsKept shown s (s.panelChange src pairs) := by
  unfold State.panelChange
  split
  · exact errorBeep s
  · split
    · exact errorBeep s
    · next h => exact change h

theorem panelRun (s : State) {f : State → State} (h : LawsKept shown s (f s)) : LawsKept shown s (s.panelRun f) :=
  ite (errorBeep s) h

theorem panelLocal (s : State) : LawsKept shown s s.panelLocal := by
  unfold State.panelLocal
  split
  · exact refl s
  · exact ite (errorBeep s) (endLock s)

theorem keyAction (s : State) (k : Nat) : ∀ a, LawsKept shown s (s.keyAction k a)
  | .none => refl s
  | .report => post s _
  | .runStop => panelRun s (f := fun s => s.runControl _) (runControl s _)
  | .single => panelRun s (f := fun s => s.runControl _) (runControl s _)
  | .sequence => panelRun s (f := fun s => s.runControl _) (runControl s _)
  | .force => panelRun s (force s)
  | .clear => panelRun s (clearDisplay s)
  | .dflt => panelChange s _ _
  | .recall _ => ite (errorBeep s) (store id)
  | .save _ => ite (errorBeep s) (store id)
  | .channel _ => ite (errorBeep s) (panelChange s _ _)
  | .setField _ _ => panelChange s _ _
  | .localKey => panelLocal s

theorem undue (s : State) (e : PanelEvent) : LawsKept shown s (s.undue e) := regs rfl

theorem takePress (s : State) (k : Nat) : LawsKept shown s (s.takePress k) :=
  ite (((undue s _).trans (setTone _ _)).trans (keyAction _ _ _)) (undue s _)

theorem takeRelease (s : State) (k : Nat) : LawsKept shown s (s.takeRelease k) :=
  ite ((undue s _).trans (post _ _)) (undue s _)

theorem knobAction (s : State) (e : Nat) (cw : Bool) (k : KnobEntry) (r : EncRec) :
    LawsKept shown s (s.knobAction e cw k r) := by
  unfold State.knobAction
  split
  · exact post s _
  · exact panelChange s _ _
  · exact panelChange s _ _

theorem takeDetent (s : State) (e : Nat) (cw : Bool) : LawsKept shown s (s.takeDetent e cw) :=
  have counted : LawsKept shown s ((s.undue (.detent e cw)).countDetent e cw) := trans (undue s (.detent e cw)) (regs rfl)
  ite (counted.trans (knobAction _ _ _ _ _)) (undue s _)

theorem takeEvent (s : State) (e : PanelEvent) : LawsKept shown s (s.takeEvent e) := by
  cases e with
  | press k => exact takePress s k
  | release k => exact takeRelease s k
  | detent e cw => exact takeDetent s e cw

theorem takeDue (s : State) : LawsKept shown s s.takeDue := foldl takeEvent _ s

/-! ## The setup store -/

theorem endOp (s : State) (op : StoreOp) (code : Code) : LawsKept shown s (s.endOp op code) := by
  have done : LawsKept shown s (State.post { s with store := s.store.finish } (.storeDone op.kind op.slotNum code)) :=
    trans (t := { s with store := s.store.finish }) (store id) (post _ _)
  exact ite (done.trans (errorBeep _)) done

theorem endRecall (s : State) (op : StoreOp) (ws : List Word) : LawsKept shown s (s.endRecall op ws) :=
  ite (trans (t := { s with store := s.store.setEntry op.slotNum corruptEntry }) (store id) (endOp _ _ _))
    (ite (endOp s _ _) ((applyValues s .recall _).trans (endOp _ _ _)))

theorem applyMap {α : Type} (s : State) {p : Port} (hl : Unanswered (s.port p)) (first : Nat) (es : List (Option α))
    {f : List α → State} (h : ∀ l, LawsKept shown s (f l)) (hp : ∀ l, ((f l).port p).link = (s.port p).link) :
    LawsKept shown s (s.applyMap p first es f) :=
  ite ((h _).responds hl (hp _) _ _) (respond s hl _ _)

theorem completeData (s : State) {p : Port} (hl : Unanswered (s.port p)) (r : Staged) (table : List Word) :
    LawsKept shown s (s.completeData p r table) :=
  ite (applyMap s hl _ _ (fun _ => regs rfl) fun _ => by cases p <;> rfl) <|
    ite (applyMap s hl _ _ (fun _ => regs rfl) fun _ => by cases p <;> rfl) <|
      ite (applyMap s hl _ _ (fun _ => regs rfl) fun _ => by cases p <;> rfl) (respond s hl _ _)

end LawsKept

/-! ## Every command -/

/-- The answer of a command keeps the laws. -/
def AnswersLaws (shown : Prop) (o : Host.Outcome State Fault Refusal) (s : State) : Prop :=
  ∃ t, o = .next t ∧ LawsKept shown s t

theorem AnswersLaws.next {shown : Prop} {s t : State} (h : LawsKept shown s t) : AnswersLaws shown (.next t) s :=
  ⟨t, rfl, h⟩

theorem AnswersLaws.onRequest {shown : Prop} {s : State} {p : Port} {kind : BitVec 8} {f : List Word → State}
    (h : Unanswered (s.port p) → ∀ ws, LawsKept shown s (f ws)) : AnswersLaws shown (onRequest p kind s f) s := by
  rcases onRequest_next p kind s f with e | ⟨ws, ho, e⟩
  · exact ⟨s, e, .refl s⟩
  · exact ⟨f ws, e, h (by rw [Unanswered, ho.1]; simp) ws⟩

namespace LawsKept

variable {shown : Prop}

theorem startWord (s : State) (p : Port) (w : Word) : AnswersLaws shown (execStartWord p w s) s := by
  refine .next (ite (refl s) ?_)
  split
  · next h =>
    have hl : Unanswered (s.port p) := by rw [Unanswered, h.1]; simp
    refine ite ((updPort s (.of_eq rfl)).responds hl (by rw [State.port_updPort]) _ _) (updPort s ?_)
    exact .idle hl rfl (.inr rfl)
  · exact updPort s (.of_eq rfl)

/-- A response that ends an act of the setup store. -/
theorem storeResponds {s : State} {p : Port} (hl : Unanswered (s.port p)) {g : Store} (hg : g.flash = s.store.flash)
    (c : Code) (ws : List Word) : LawsKept shown s (State.respond { s with store := g } p c ws) :=
  responds (store (fun h => by rw [hg]; exact h)) hl (by cases p <;> rfl) c ws

/-- A response that ends an act on the port's own overlay. -/
theorem overlayResponds {s : State} {p : Port} (hl : Unanswered (s.port p)) {f : Overlay → Overlay}
    (hf : ∀ o : Overlay, Cells.wf (0 : BitVec 4) o.plane = true → Cells.wf (0 : BitVec 4) (f o).plane = true) (c : Code) (ws : List Word) :
    LawsKept shown s (State.respond { s with comp := s.comp.updOverlay p f } p c ws) :=
  responds (comp (otherMemory_updOverlay p hf)) hl (by cases p <;> rfl) c ws

theorem closeFrame (s : State) {p : Port} (hl : Unanswered (s.port p)) (w : Word) : LawsKept shown s (s.closeFrame p w) :=
  ite (respond s hl _ _) (ite (respond s hl _ _) (updPort s (.idle hl rfl (.inr rfl))))

theorem frameWord (s : State) (p : Port) (w : Word) : AnswersLaws shown (execFrameWord p w s) s := by
  refine .next (ite (refl s) (ite (updPort s (.of_eq rfl)) ?_))
  split
  · next h => exact ite (updPort s (.of_eq rfl)) (closeFrame s (by rw [Unanswered, h]; simp) w)
  · exact refl s

theorem dataWord (s : State) (p : Port) (w : Word) : AnswersLaws shown (execDataWord p w s) s := by
  refine .next (ite (refl s) ?_)
  split
  · next h => exact respond s (by rw [h]; simp) _ _
  · exact updPort s (.of_eq rfl)
  · exact refl s

theorem checkWord (s : State) (p : Port) (w : Word) : AnswersLaws shown (execCheckWord p w s) s := by
  refine .next (ite (refl s) ?_)
  split
  · next h => exact respond s (by rw [h]; simp) _ _
  · next r h _ =>
    have stored : LawsKept shown s { s with comp := s.comp.updOverlay p fun o => o.takeBurst (s.port p) r w } :=
      comp (otherMemory_updOverlay p fun o ho => wf_takeBurst ho _ _ _)
    refine stored.trans (updPort _ (.idle ?_ rfl (.inr rfl)))
    have : (s.port p).link ≠ .responding ∧ (s.port p).link ≠ .dataOut := by rw [h]; simp
    cases p <;> exact this
  · exact refl s

theorem outKept_readResponse (ps : PortState) (r : Response) :
    OutKept ps (ps.readResponse r) := by
  unfold PortState.readResponse
  dsimp only
  split
  · exact .of_eq rfl
  · split
    · next d ho => exact ⟨rfl, fun k => ⟨k.1, fun _ => .inr rfl⟩⟩
    · next ho => exact ⟨rfl, fun k => ⟨k.1.trans (by rw [ho]; rfl), fun h => absurd rfl h⟩⟩

theorem wordRead (s : State) (p : Port) : AnswersLaws shown (execWordRead p s) s := by
  refine .next (ite (updPort s (.of_eq rfl)) (ite (updPort s (.of_eq rfl)) ?_))
  split
  · next r _ _ => exact updPort s (outKept_readResponse _ r)
  · exact readOut s p _
  · exact updPort s (.of_eq rfl)

theorem setupWrite (s : State) (p : Port) : AnswersLaws shown (execSetupWrite p s) s := by
  refine .onRequest fun hl ws => ite (respond s hl _ _) (ite (respond s hl _ _) (ite (respond s hl _ _) ?_))
  split
  · exact respond s hl _ _
  · next h => exact (change h).responds hl (link_change h p) _ _

theorem setupExchange (s : State) (p : Port) : AnswersLaws shown (execSetupExchange p s) s := by
  refine .onRequest fun hl ws => ite (respond s hl _ _) ?_
  split
  · exact respond s hl _ _
  · next h => exact (change h).responds hl (link_change h p) _ _

theorem defaultSetup (s : State) (p : Port) : AnswersLaws shown (execDefaultSetup p s) s := by
  refine .onRequest fun hl ws => ite (respond s hl _ _) ?_
  split
  · exact respond s hl _ _
  · next h => exact (change h).responds hl (link_change h p) _ _

theorem grantLock (s : State) (p : Port) (d : Bool) : LawsKept shown s (s.grantLock p d) := by
  have granted : LawsKept shown s { s with setup := { s.setup with holder := some p, localDisabled := d } } := regs rfl
  exact ite (granted.trans (post _ _)) granted

theorem lock (s : State) (p : Port) : AnswersLaws shown (execLock p s) s := by
  refine .onRequest fun hl _ => ite (respond s hl _ _) ((grantLock s p _).responds hl ?_ _ _)
  unfold State.grantLock
  dsimp only
  split <;> cases p <;> rfl

theorem unlock (s : State) (p : Port) : AnswersLaws shown (execUnlock p s) s := by
  refine .onRequest fun hl _ => ite (respond s hl _ _) ((ite (refl s) (endLock s)).responds hl ?_ _ _)
  split <;> cases p <;> rfl

theorem beginMap (s : State) {p : Port} (hl : Unanswered (s.port p)) (size : Nat) (ws : List Word) :
    LawsKept shown s (s.beginMap p size ws) :=
  ite (respond s hl _ _) (updPort s (.idle hl rfl (.inr rfl)))

theorem dataInCompletion (s : State) (p : Port) : AnswersLaws shown (execDataInCompletion p s) s := by
  refine .next ?_
  split
  · next h _ =>
    have hl : Unanswered (s.port p) := by rw [Unanswered, h]; simp
    split
    · split
      · exact respond s hl _ _
      · exact completeData s hl _ _
    · exact refl s
  · exact refl s

theorem runControlRequest (s : State) (p : Port) : AnswersLaws shown (execRunControl p s) s := by
  refine .onRequest fun hl ws => ite (refl s) ?_
  split
  · exact respond s hl _ _
  · next x _ =>
    exact ite (respond s hl _ _) ((runControl s x).responds hl ((inner_runControl s x).link p) _ _)

theorem runControlForce (s : State) (p : Port) : AnswersLaws shown (execRunControlForce p s) s :=
  .onRequest fun hl _ => ite (ite (respond s hl _ _) ((force s).responds hl ((inner_force s).link p) _ _)) (refl s)

theorem holdRequest (s : State) (p : Port) : AnswersLaws shown (execHold p s) s := by
  refine .onRequest fun hl ws => ?_
  split
  · exact respond s hl _ _
  · exact respond s hl _ _
  · next i _ _ =>
    unfold State.hold
    split
    · exact respond s hl _ _
    · next hc =>
      split
      · exact respond s hl _ _
      · next hn =>
        refine (addExplicit (by simpa using hc) (by simpa [Config.maxHolds] using hn)).responds hl ?_ _ _
        rw [State.addHold, State.port_updPort, State.port_setSeg]

theorem releaseRequest (s : State) (p : Port) : AnswersLaws shown (execRelease p s) s := by
  refine .onRequest fun hl ws => ?_
  split
  · exact respond s hl _ _
  · exact respond s hl _ _
  · next i _ _ =>
    unfold State.releaseHold
    split
    · exact respond s hl _ _
    · next hn =>
      refine (release hl (by simpa using hn)).responds hl ?_ _ _
      rw [(inner_finishAct _).link, holds_dropHold, if_pos rfl]

theorem readWaveform (s : State) (p : Port) : AnswersLaws shown (execReadWaveform p s) s := by
  refine .onRequest fun hl ws => ite (respond s hl _ _) ?_
  split
  · exact respond s hl _ _
  · next i _ =>
    split
    · exact respond s hl _ _
    · next hc =>
      unfold State.readWave
      dsimp only
      split
      · exact respond s hl _ _
      · next hn =>
        exact ite (respond s hl _ _) (addImplicit hl (by simpa using hc) (by simpa [Config.maxHolds] using hn) _ _ _ _ _)

theorem segmentInfo (s : State) (p : Port) : AnswersLaws shown (execSegmentInfo p s) s := by
  refine .onRequest fun hl ws => ?_
  split
  · exact respond s hl _ _
  · exact respond s hl _ _
  · exact respond s hl _ _

theorem showSegment (s : State) (p : Port) (hs : shown → AllKept s) : AnswersLaws shown (execShowSegment p s) s := by
  refine .onRequest fun hl ws => ?_
  split
  · next i _ =>
    refine ite (respond s hl _ _) (ite (respond s hl _ _) ?_)
    split
    · exact respond s hl _ _
    · next hc =>
      refine (showSeg (by simpa using hc) hs).responds hl (Inner.link ?_ p) _ _
      exact (((inner_makeCurrent s i).trans (inner_clearRasters _)).trans (inner_handOff _ i)).trans (inner_finishAct _)
  · exact respond s hl _ _

theorem recallSetup (s : State) (p : Port) : AnswersLaws shown (execRecallSetup p s) s := by
  refine .onRequest fun hl ws => ite (respond s hl _ _) (ite (respond s hl _ _) (ite (respond s hl _ _) ?_))
  split
  · exact respond s hl _ _
  · exact respond s hl _ _
  · exact storeResponds hl (by rfl) _ _

theorem echo (s : State) (w : Word) : AnswersLaws shown (execEcho w s) s := by
  refine .next ?_
  split
  · exact ite (ite ((frontEnd s _).trans (feFinish _)) ((feMismatch s _).trans (feFinish _))) (refl s)
  · exact refl s

theorem echoTimeout (s : State) : AnswersLaws shown (execEchoTimeout s) s := by
  refine .next ?_
  split
  · exact (feMismatch s _).trans (feFinish _)
  · exact refl s

theorem autoTimerExpiry (s : State) : AnswersLaws shown (execAutoTimerExpiry s) s := by
  refine .next ?_
  split
  · split
    · next h => exact takeTrigger (by rw [h]; rfl) _
    · exact refl s
  · exact refl s

theorem renderColumnStep (s : State) : AnswersLaws shown (execRenderColumnStep s) s := by
  refine .next ?_
  split
  · next r hr =>
    split
    · exact ite ((columnStep hr _).trans (retryWait _)) (refl s)
    · exact refl s
  · exact refl s

theorem frameExpiry (s : State) : AnswersLaws shown (execFrameExpiry s) s :=
  .next (trans (trans (t := s.startFrame) (comp id) (tellDecay _)) (regs rfl))

theorem buildEnd (s : State) : AnswersLaws shown (execBuildEnd s) s := by
  refine .next ?_
  split
  · exact ite (comp otherMemory_endBuild) (refl s)
  · exact refl s

theorem firstWordMarkEnd (s : State) : AnswersLaws shown (execFirstWordMarkEnd s) s := by
  refine .next ?_
  split
  · exact store fun h => Cells.wf_put h _ _
  · exact refl s

theorem eraseEnd (s : State) (u : FlashUpset) : AnswersLaws shown (execEraseEnd u s) s := by
  refine .next ?_
  split
  · exact store fun h => wf_applyUpset (Cells.wf_filter h _) _ _
  · exact refl s

theorem programEnd (s : State) (u : FlashUpset) : AnswersLaws shown (execProgramEnd u s) s := by
  refine .next ?_
  split
  · exact store fun h => wf_applyUpset (Cells.wf_putRun h _ _) _ _
  · exact refl s

theorem flash_verifyResult (t : Store) (op : StoreOp) (ws : List Word) : (verifyResult t op ws).1.flash = t.flash := by
  unfold verifyResult
  split <;> split <;> rfl

theorem verifyEnd (s : State) (u : FlashUpset) : AnswersLaws shown (execVerifyEnd u s) s := by
  refine .next ?_
  split
  · exact (store fun h => by rw [flash_verifyResult]; exact h).trans (endOp _ _ _)
  · exact refl s

theorem recallReadEnd (s : State) (u : FlashUpset) : AnswersLaws shown (execRecallReadEnd u s) s := by
  refine .next ?_
  split
  · exact endRecall s _ _
  · exact refl s

theorem flash_beginScan (t : Store) : t.beginScan.flash = t.flash := by
  unfold Store.beginScan
  split <;> rfl

theorem flash_scanRead (t : Store) (ws : List Word) : (t.scanRead ws).flash = t.flash := by
  unfold Store.scanRead
  split
  · rfl
  · unfold Store.endScan
    split <;> rfl

theorem scanSectorReadEnd (s : State) (u : FlashUpset) : AnswersLaws shown (execScanSectorReadEnd u s) s :=
  .next (ite (store fun h => by rw [flash_scanRead, flash_beginScan]; exact h) (refl s))

theorem servePort (s : State) (p : Port) : LawsKept shown s (s.servePort p) := by
  unfold State.servePort
  split
  · exact updPort s (.of_eq rfl)
  · exact refl s

theorem sampleMemoryAccess (s : State) : AnswersLaws shown (execSampleMemoryAccess s) s := by
  refine .next ?_
  split
  · have served : StoreKept shown shown s { s with rend := s.rend.served } := by
      refine .alike (.regs (.update _ _ _ _ _ _) rfl) (fun _ _ => rfl) rfl ?_
      refine Prod.ext rfl ?_
      change (s.rend.render.map _).map _ = _
      rw [Option.map_map]
      rfl
    refine trans (of_store served (fun h => h.kept (.beside rfl)) fun _ _ _ _ r h => ?_) (regs rfl)
    exact r (Option.map_eq_none_iff.1 h)
  · exact (servePort s .a).trans (regs rfl)
  · exact (servePort s .b).trans (regs rfl)
  · exact refl s

theorem otherMemory_served {s : State} (h : OtherMemory s) : OtherMemory { s with comp := s.comp.served } :=
  ⟨h.1, Cells.wf_putRun h.2.1 _ _, h.2.2⟩

theorem frameBufferAccess (s : State) : AnswersLaws shown (execFrameBufferAccess s) s := by
  refine .next ?_
  split
  · exact (comp otherMemory_served).trans (regs rfl)
  · exact (servePort s .a).trans (regs rfl)
  · exact (servePort s .b).trans (regs rfl)
  · exact refl s

end LawsKept

open LawsKept in
/-- Every command but a power-on reset keeps the laws; that every COMPLETE segment is kept holds the one that SHOW_SEGMENT
shows. -/
theorem exec_laws (c : Instr) (s : State) {shown : Prop} (hs : shown → AllKept s) (hc : ∀ st w u, c ≠ .powerOnReset st w u) :
    AnswersLaws shown (exec c s) s :=
  match c with
  | .powerOnReset st w u => absurd rfl (hc st w u)
  | .portReset p => .next (LawsKept.portReset s p)
  | .abort p => .next (ite (refl s) (abort s p))
  | .startWord p w => startWord s p w
  | .frameWord p w => frameWord s p w
  | .dataWord p w => dataWord s p w
  | .checkWord p w => checkWord s p w
  | .wordRead p => wordRead s p
  | .identify _ => .onRequest fun hl _ => respond s hl _ _
  | .getNotices _ => .onRequest fun hl _ => ite (respond s hl _ _) ((updPort s (.of_eq rfl)).trans
      (updPort _ (.idle (hl.of_eq (by rw [State.port_updPort]; rfl)) rfl (.inl rfl))))
  | .setAttention _ => .onRequest fun hl _ => ite (respond s hl _ _)
      ((updPort s (.of_eq rfl)).responds hl (by rw [State.port_updPort]) _ _)
  | .setupRead _ => .onRequest fun hl _ => ite (respond s hl _ _) (respond s hl _ _)
  | .setupWrite p => setupWrite s p
  | .setupExchange p => setupExchange s p
  | .defaultSetup p => defaultSetup s p
  | .lock p => lock s p
  | .unlock p => unlock s p
  | .writeKeymap _ => .onRequest fun hl _ => beginMap s hl _ _
  | .writeKnobmap _ => .onRequest fun hl _ => beginMap s hl _ _
  | .writeLedmap _ => .onRequest fun hl _ => beginMap s hl _ _
  | .dataInCompletion p => dataInCompletion s p
  | .beep p => .onRequest fun hl _ => (setTone s _).responds hl (by cases p <;> rfl) _ _
  | .triggerStatus _ => .onRequest fun hl _ => respond s hl _ _
  | .runControl p => runControlRequest s p
  | .runControlForce p => runControlForce s p
  | .hold p => holdRequest s p
  | .release p => releaseRequest s p
  | .readWaveform p => readWaveform s p
  | .segmentInfo p => segmentInfo s p
  | .showSegment p => showSegment s p hs
  | .clearDisplay p => .onRequest fun hl _ => ite (respond s hl _ _) ((clearDisplay s).responds hl
      (((inner_clearRasters s).trans (inner_finishAct _)).link p) _ _)
  | .writeOverlay _ => .onRequest fun hl _ => ite (respond s hl _ _) (updPort s (.idle hl rfl (.inr rfl)))
  | .fillOverlay p => .onRequest fun hl _ => ite (respond s hl _ _)
      (overlayResponds hl (fun _ ho => wf_fillRect ho _ _ _ _ _) _ _)
  | .writePalette p => .onRequest fun hl _ => ite (respond s hl _ _)
      (overlayResponds hl (f := setPalette _ _) (fun _ ho => ho) _ _)
  | .readScreen p => .onRequest fun hl _ => trans (t := { s with comp := { s.comp with reads := s.comp.reads + 1 } })
      (comp id) (respondOut _ (Unanswered.of_eq hl (by cases p <;> rfl)) _ _ rfl)
  | .saveSetup p => .onRequest fun hl _ => ite (respond s hl _ _) (ite (respond s hl _ _)
      (storeResponds hl (by rfl) _ _))
  | .recallSetup p => recallSetup s p
  | .eraseSetup p => .onRequest fun hl _ => ite (respond s hl _ _) (ite (respond s hl _ _)
      (storeResponds hl (by rfl) _ _))
  | .setStartup p => .onRequest fun hl _ => ite (respond s hl _ _) (ite (respond s hl _ _)
      (storeResponds hl (by rfl) _ _))
  | .listSetups _ => .onRequest fun hl _ => ite (respond s hl _ _) (respondOut s hl _ _ rfl)
  | .setClock p => .onRequest fun hl _ => ite (respond s hl _ _) (storeResponds hl (by rfl) _ _)
  | .scanTick _ _ _ => .next ((takeDue s).trans (regs rfl))
  | .keyPress k => .next (takePress s k)
  | .keyRelease k => .next (takeRelease s k)
  | .detent e cw => .next (takeDetent s e cw)
  | .toneExpiry => .next (setTone s _)
  | .ledPwmPeriod _ => .next (regs rfl)
  | .echo w => echo s w
  | .echoTimeout => echoTimeout s
  | .settleExpiry _ => .next (ite ((frontEnd s _).trans (tellSettled _)) (refl s))
  | .keptSample _ _ _ _ ext => .next (LawsKept.keptSample s _ ext)
  | .holdoffExpiry => .next (regs rfl)
  | .autoTimerExpiry => autoTimerExpiry s
  | .trigOutPulseEnd => .next (regs rfl)
  | .renderColumnStep => renderColumnStep s
  | .frameExpiry => frameExpiry s
  | .buildEnd => buildEnd s
  | .scanSectorReadEnd u => scanSectorReadEnd s u
  | .firstWordMarkEnd => firstWordMarkEnd s
  | .eraseEnd u => eraseEnd s u
  | .programEnd u => programEnd s u
  | .verifyEnd u => verifyEnd s u
  | .recallReadEnd u => recallReadEnd s u
  | .clockRise => .next (store id)
  | .probeCompEdge => .next (regs rfl)
  | .prstRelease _ => .next (updPort s (.of_eq rfl))
  | .sampleMemoryAccess => sampleMemoryAccess s
  | .frameBufferAccess => frameBufferAccess s

end Sys2Proof.Machine
end

section
/-!
SUPPORT. Every step over `LawsKept`, and the laws right after a power-on reset; with them the six laws of the segment
store, the renderer, the holds and the memories (O8 to O13).
-/

namespace Sys2Proof.Machine

/-! ## The part's own time (log 2) -/

namespace LawsKept

variable {shown : Prop}

theorem beginScan (s : State) : LawsKept shown s s.beginScan := store fun h => by rw [flash_beginScan]; exact h

theorem tick (s : State) : LawsKept shown s s.tick := by
  have ticked : LawsKept shown s { s with acq := { s.acq with decim := tickTimer s.acq.decim } } :=
    of_fill (.regs (.update s _ _ _ _ _) rfl)
      (.of_acq rfl ⟨Iff.rfl, .inl rfl, id, fun _ _ => .refl _, fun _ => rfl⟩) rfl
  exact ticked.trans (beside rfl id fun q => by cases q <;> exact .refl _)

end LawsKept

open LawsKept in
/-- What a step on an empty queue does keeps the laws. -/
theorem idle_laws (s : State) {shown : Prop} : AnswersLaws shown (idle s) s := by
  unfold idle
  split
  · exact .next (takeEvent s _)
  · exact .next (((feArbitrate s).trans (beginScan _)).trans (tick _))

open LawsKept in
/-- Every step keeps the laws, or begins anew from the state after a power-on reset. -/
theorem step_laws {s t : State} {shown : Prop} (hs : shown → AllKept s) (h : step s = .next t) :
    LawsKept shown s t ∨ ∃ st w u, LawsKept shown (State.resetWith st (cutFlash s.store w u)) t := by
  have answered {o : Host.Outcome State Fault Refusal} {r : State} (ho : AnswersLaws shown o r) (h : o = .next t) :
      LawsKept shown r t := by
    obtain ⟨t', he, k⟩ := ho
    obtain rfl : t' = t := Host.Outcome.next.inj (he.symm.trans h)
    exact k
  unfold step at h
  split at h
  · next c rest _ =>
    have popped : LawsKept shown s { s with pending := rest } := regs rfl
    by_cases hc : ∀ st w u, c ≠ .powerOnReset st w u
    · exact .inl (popped.trans (answered (exec_laws c _ hs hc) h))
    · simp only [not_forall, ne_eq, not_not] at hc
      obtain ⟨st, w, u, rfl⟩ := hc
      obtain rfl := Host.Outcome.next.inj h
      exact .inr ⟨st, w, u, ((feArbitrate _).trans (beginScan _)).trans (regs rfl)⟩
  · exact .inl (answered (idle_laws s) h)

/-! ## Right after a power-on reset (R59, R163) -/

theorem seg_resetWith (st : Straps) (flash : Cells Word) (i : Nat) : (State.resetWith st flash).acq.seg i = Seg.blank := rfl

theorem acqLaw_resetWith (st : Straps) (flash : Cells Word) : AcqLaw (State.resetWith st flash) := by
  unfold AcqLaw
  simp only [seg_resetWith]
  simp [Seg.blank, State.resetWith, Acq.initial]

theorem snapshotLaw_resetWith (st : Straps) (flash : Cells Word) : SnapshotLaw (State.resetWith st flash) := by
  refine ⟨rfl, fun e n h => ?_, fun i h => absurd rfl h, fun i _ => rfl, fun e h => by cases h⟩
  obtain rfl := List.eq_of_mem_replicate (List.mem_of_getElem? h)
  rfl

theorem holdLaw_resetWith (st : Straps) (flash : Cells Word) : HoldLaw (State.resetWith st flash) := by
  have none (p : Port) : ((State.resetWith st flash).port p).holds = [] ∧ ((State.resetWith st flash).port p).out = none := by
    cases p <;> exact ⟨rfl, rfl⟩
  refine (holdLaw_iff _).2 ⟨⟨fun p => ?_, fun p i => ?_, fun i h => absurd h (Nat.lt_irrefl 0)⟩, fun p => ?_⟩
  · rw [(none p).1]
    exact Nat.zero_le _
  · rw [(none p).1]
    cases p <;> rfl
  · rw [OutSound, (none p).1, (none p).2]
    exact ⟨rfl, fun h => absurd rfl h⟩

theorem keptLaw_resetWith (st : Straps) (flash : Cells Word) : KeptLaw (State.resetWith st flash) := by
  refine ⟨fun i h => ?_, fun i _ => .inl (by rw [seg_resetWith]; rfl)⟩
  rw [seg_resetWith] at h
  cases h

theorem renderQueueLaw_resetWith (st : Straps) (flash : Cells Word) : RenderQueueLaw (State.resetWith st flash) := by
  unfold RenderQueueLaw
  simp only [seg_resetWith]
  simp [Seg.blank, State.resetWith, Renderer.initial]

theorem memory_cutReset {s : State} (h : MemoryLaw s) (st : Straps) (w : Nat) (u : FlashUpset) :
    MemoryLaw (State.resetWith st (cutFlash s.store w u)) :=
  memory_resetWith st (wf_cutFlash h.2.2.2.2.2.2.2 w u)

/-! ## The laws -/

/-- Settles O13. -/
theorem memoryLawKept : Obligations.MemoryLawKept := by
  intro s t m h
  rcases step_laws (shown := False) False.elim h with k | ⟨st, w, u, k⟩
  · exact k.memory m
  · exact k.memory (memory_cutReset m st w u)

/-- Settles O8. -/
theorem acqLawKept : Obligations.AcqLawKept := by
  intro s t m l h
  have kept {r : State} (k : LawsKept False r t) (m : MemoryLaw r) (l : AcqLaw r) : AcqLaw t := by
    rw [acqLaw_iff] at l ⊢
    exact ⟨k.fills m l.1, k.current m l.2⟩
  rcases step_laws (shown := False) False.elim h with k | ⟨st, w, u, k⟩
  · exact kept k m l
  · exact kept k (memory_cutReset m st w u) (acqLaw_resetWith _ _)

/-- Settles O9: that every COMPLETE segment is kept is what a SHOW_SEGMENT goes by. -/
theorem snapshotLawKept : Obligations.SnapshotLawKept := by
  intro s t m l hk hn h
  have hs : True → AllKept s := fun _ i _ => hk.1 i
  rcases step_laws hs h with k | ⟨st, w, u, k⟩
  · exact k.snapshot trivial m ((acqLaw_iff s).1 l).2 hn
  · exact k.snapshot trivial (memory_cutReset m st w u) ((acqLaw_iff _).1 (acqLaw_resetWith _ _)).2
      (snapshotLaw_resetWith _ _)

/-- Settles O10. -/
theorem holdLawKept : Obligations.HoldLawKept := by
  intro s t m l h
  rcases step_laws (shown := False) False.elim h with k | ⟨st, w, u, k⟩
  · exact k.holds m l
  · exact k.holds (memory_cutReset m st w u) (holdLaw_resetWith _ _)

/-- Settles O11: the law that a segment FILLING lies below K is kept beside it. -/
theorem keptLawKept : Obligations.KeptLawKept := by
  intro s t m l hh hk h
  have kept {r : State} (k : LawsKept False r t) (m : MemoryLaw r) (l : AcqLaw r) (hh : HoldLaw r) (hk : KeptLaw r) :
      KeptLaw t := (k.kept m ((acqLaw_iff r).1 l).1 (keptInv_of_laws hk hh)).law
  rcases step_laws (shown := False) False.elim h with k | ⟨st, w, u, k⟩
  · exact kept k m l hh hk
  · exact kept k (memory_cutReset m st w u) (acqLaw_resetWith _ _) (holdLaw_resetWith _ _) (keptLaw_resetWith _ _)

/-- Settles O12. -/
theorem renderQueueLawKept : Obligations.RenderQueueLawKept := by
  intro s t m l hk hq h
  have kept {r : State} (k : LawsKept True r t) (m : MemoryLaw r) (l : AcqLaw r) (hq : RenderQueueLaw r) :
      RenderQueueLaw t := by
    rw [renderQueueLaw_iff] at hq ⊢
    have c := ((acqLaw_iff r).1 l).2
    exact ⟨k.queue trivial m c hq.1, k.rest trivial m c hq.1 hq.2⟩
  have hs : True → AllKept s := fun _ i _ => hk.1 i
  rcases step_laws hs h with k | ⟨st, w, u, k⟩
  · exact kept k m l hq
  · exact kept k (memory_cutReset m st w u) (acqLaw_resetWith _ _) (renderQueueLaw_resetWith _ _)

end Sys2Proof.Machine
end

section
/-!
SUPPORT. What the shared operations of the segment store and the renderer leave as it was, over the relation `StoreMoved`,
and an act over `ActMoved`; what becomes of a record, by `Faded` and by what still keeps it; and the segments that the idle
renderer takes (R112).
-/

namespace Sys2Proof.Machine

/-! ## The segment store and the renderer -/

/-- The entries of the snapshot table hold the same values. -/
def ValsSame (a b : Acq) : Prop := ∀ e, (b.snaps.getD e Snap.initial).vals = (a.snaps.getD e Snap.initial).vals

/-- A snapshot reads the same through every record that refers to it. -/
theorem ValsSame.snapVal {a b : Acq} (h : ValsSame a b) {g k : Seg} (hg : k.snap = g.snap) (id : Nat) :
    b.snapVal k id = a.snapVal g id := by
  have hvals : (b.snapOf k).vals = (a.snapOf g).vals := by
    unfold Acq.snapOf
    rw [hg]
    split
    · exact h _
    · rfl
  exact congrArg (fun l : List (Nat × Int) => ((l.find? fun p => p.1 == id).map (·.2)).getD 0) hvals

theorem ValsSame.segChannels {a b : Acq} (h : ValsSame a b) {g k : Seg} (hg : k.snap = g.snap) :
    b.segChannels k = a.segChannels g := by
  simp only [Acq.segChannels, h.snapVal hg]

/-- The renderer has moved and, of the acquisition, its records, its snapshot table and its sequence list; the values in the
table stay, and nothing joins the list. -/
def StoreMoved (s t : State) : Prop :=
  ∃ segs snaps l r, t = { s with acq := { s.acq with segs := segs, snaps := snaps, seqList := l }, rend := r }
    ∧ (∀ e, (snaps.getD e Snap.initial).vals = (s.acq.snaps.getD e Snap.initial).vals) ∧ l.Sublist s.acq.seqList

namespace StoreMoved

theorem refl (s : State) : StoreMoved s s := ⟨_, _, _, _, rfl, fun _ => rfl, .refl _⟩

theorem trans {s t u : State} (h : StoreMoved s t) (k : StoreMoved t u) : StoreMoved s u := by
  obtain ⟨_, _, _, _, rfl, h, hl⟩ := h
  obtain ⟨_, _, _, _, rfl, k, kl⟩ := k
  exact ⟨_, _, _, _, rfl, fun e => (k e).trans (h e), kl.trans hl⟩

theorem ite {s t u : State} {c : Prop} [Decidable c] (h : StoreMoved s t) (k : StoreMoved s u) :
    StoreMoved s (if c then t else u) := by split <;> assumption

/-- The renderer alone. -/
theorem rend (s : State) (r : Renderer) : StoreMoved s { s with rend := r } := ⟨_, _, _, _, rfl, fun _ => rfl, .refl _⟩

theorem setSeg (s : State) (i : Nat) (g : Seg) : StoreMoved s (s.setSeg i g) := ⟨_, _, _, _, rfl, fun _ => rfl, .refl _⟩

theorem freeSeg (s : State) (i : Nat) : StoreMoved s (s.freeSeg i) := ⟨_, _, _, _, rfl, vals_dropRef _ _, List.filter_sublist⟩

theorem freeIfUnkept (s : State) (i : Nat) : StoreMoved s (s.freeIfUnkept i) := ite (freeSeg s i) (refl s)

theorem clearPending (s : State) (i : Nat) : StoreMoved s (s.clearPending i) := (setSeg s i _).trans (freeIfUnkept _ i)

/-- An index leaves the queue, or a render ends. -/
theorem doneWith (s : State) (r : Renderer) (i : Nat) : StoreMoved s (State.clearPending { s with rend := r } i) :=
  (rend s r).trans (clearPending _ i)

theorem makeCurrent (s : State) (i : Nat) : StoreMoved s (s.makeCurrent i) := by
  unfold State.makeCurrent
  split
  · exact ite (refl s) (((setSeg s _ _).trans (setSeg _ _ _)).trans (freeIfUnkept _ _))
  · exact setSeg s i _

theorem makeRoom (s : State) : StoreMoved s s.makeRoom := by
  unfold State.makeRoom
  split
  · exact refl s
  · split
    · exact doneWith s _ _
    · exact refl s

theorem handOff (s : State) (i : Nat) : StoreMoved s (s.handOff i) :=
  ite (refl s) ((makeRoom s).trans ((rend _ _).trans (setSeg _ _ _)))

theorem abandonRender (s : State) : StoreMoved s s.abandonRender := by
  unfold State.abandonRender
  split
  · exact doneWith s _ _
  · exact refl s

theorem clearRasters (s : State) : StoreMoved s s.clearRasters := (rend s _).trans (abandonRender _)

theorem takeRender (s : State) (n : Nat) : StoreMoved s (s.takeRender n) := by
  induction n generalizing s with
  | zero => exact refl s
  | succ n ih =>
    unfold State.takeRender
    split
    · exact refl s
    · exact ite ((doneWith s _ _).trans (ih _)) (rend s _)

theorem resume (s : State) : StoreMoved s s.resume := by
  unfold State.resume
  split
  · exact refl s
  · exact (rend s _).trans (takeRender _ _)

/-- What has not moved. -/
theorem eq {s t : State} (h : StoreMoved s t) : t = { s with
    acq := { s.acq with segs := t.acq.segs, snaps := t.acq.snaps, seqList := t.acq.seqList }, rend := t.rend } := by
  obtain ⟨_, _, _, _, rfl, -⟩ := h
  rfl

theorem acq {s t : State} (h : StoreMoved s t) :
    t.acq = { s.acq with segs := t.acq.segs, snaps := t.acq.snaps, seqList := t.acq.seqList } := by
  obtain ⟨_, _, _, _, rfl, -⟩ := h
  rfl

theorem seqList {s t : State} (h : StoreMoved s t) : t.acq.seqList.Sublist s.acq.seqList := by
  obtain ⟨_, _, _, _, rfl, -, h⟩ := h
  exact h

theorem trig {s t : State} (h : StoreMoved s t) : t.trig = s.trig := by
  obtain ⟨_, _, _, _, rfl, -⟩ := h
  rfl

theorem state {s t : State} (h : StoreMoved s t) : t.acq.state = s.acq.state := by rw [h.acq]

theorem port {s t : State} (h : StoreMoved s t) (p : Port) : t.port p = s.port p := by
  obtain ⟨_, _, _, _, rfl, -⟩ := h
  cases p <;> rfl

theorem fieldVal {s t : State} (h : StoreMoved s t) (id : Nat) : t.fieldVal id = s.fieldVal id := by
  obtain ⟨_, _, _, _, rfl, -⟩ := h
  rfl

theorem slots {s t : State} (h : StoreMoved s t) : t.slots = s.slots := by
  obtain ⟨_, _, _, _, rfl, -⟩ := h
  rfl

/-- The values in the snapshot table. -/
theorem vals {s t : State} (h : StoreMoved s t) : ValsSame s.acq t.acq := by
  obtain ⟨_, _, _, _, rfl, h, -⟩ := h
  exact h

theorem segChannels {s t : State} (h : StoreMoved s t) {g k : Seg} (hg : k.snap = g.snap) :
    t.acq.segChannels k = s.acq.segChannels g := h.vals.segChannels hg

theorem segLength {s t : State} (h : StoreMoved s t) {g k : Seg} (hg : k.snap = g.snap) :
    t.acq.segLength k = s.acq.segLength g := by
  rw [Acq.segLength, Acq.segLength, h.vals.snapVal hg]

/-- A render record is formed by the values, and by the snapshot that its segment refers to (R113). -/
theorem formed {s t : State} (h : StoreMoved s t) {i : Nat} {r : Render}
    (hi : (t.acq.seg i).snap = (s.acq.seg i).snap) : RenderFormed t i r ↔ RenderFormed s i r := by
  simp only [RenderFormed, h.segLength hi, h.segChannels hi, h.fieldVal]

end StoreMoved

/-! ## What becomes of a record -/

/-- The record has lost its render-pending flag or has been freed, or is as it was. -/
def Faded (g h : Seg) : Prop := h = g ∨ h = { g with pending := false } ∨ h = Seg.blank

theorem Faded.refl (g : Seg) : Faded g g := .inl rfl

theorem Faded.trans {g h k : Seg} (a : Faded g h) (b : Faded h k) : Faded g k := by
  rcases a with rfl | rfl | rfl
  · exact b
  · rcases b with rfl | rfl | rfl
    · exact .inr (.inl rfl)
    · exact .inr (.inl rfl)
    · exact .inr (.inr rfl)
  · rcases b with rfl | rfl | rfl <;> exact .inr (.inr rfl)

/-- No record has done more than fade. -/
def AllFaded (s t : State) : Prop := ∀ j, Faded (s.acq.seg j) (t.acq.seg j)

theorem AllFaded.trans {s t u : State} (h : AllFaded s t) (k : AllFaded t u) : AllFaded s u := fun j => (h j).trans (k j)

theorem allFaded_freeIfUnkept {s : State} (m : MemoryLaw s) (i : Nat) : AllFaded s (s.freeIfUnkept i) := fun j => by
  unfold State.freeIfUnkept
  split
  · rw [seg_freeSeg m]
    split
    · exact .inr (.inr rfl)
    · exact .refl _
  · exact .refl _

theorem allFaded_clearPending {s : State} (m : MemoryLaw s) (i : Nat) : AllFaded s (s.clearPending i) := fun j => by
  refine Faded.trans ?_ (allFaded_freeIfUnkept (memory_setSeg m i { s.seg i with pending := false }) i j)
  rw [seg_setSeg m]
  split
  · next h => exact h ▸ .inr (.inl rfl)
  · exact .refl _

theorem allFaded_abandonRender {s : State} (m : MemoryLaw s) : AllFaded s s.abandonRender := by
  unfold State.abandonRender
  split
  · next r _ => exact allFaded_clearPending (s := { s with rend := { s.rend with render := none } }) m r.seg
  · exact fun _ => .refl _

theorem allFaded_clearRasters {s : State} (m : MemoryLaw s) : AllFaded s s.clearRasters :=
  allFaded_abandonRender (s := { s with rend := { s.rend with rasters := [] } }) ⟨m.1, m.2.1, rfl, m.2.2.2⟩

theorem allFaded_makeRoom {s : State} (m : MemoryLaw s) : AllFaded s s.makeRoom := by
  unfold State.makeRoom
  split
  · exact fun _ => .refl _
  · split
    · next i q _ => exact allFaded_clearPending (s := { s with rend := { s.rend with queue := q } }) m i
    · exact fun _ => .refl _

theorem allFaded_takeRender {s : State} (m : MemoryLaw s) (n : Nat) : AllFaded s (s.takeRender n) := by
  induction n generalizing s with
  | zero => exact fun _ => .refl _
  | succ n ih =>
    unfold State.takeRender
    split
    · exact fun _ => .refl _
    · next i q _ =>
      dsimp only
      split
      · exact (allFaded_clearPending (s := { s with rend := { s.rend with queue := q } }) m i).trans
          (ih (memory_clearPending (s := { s with rend := { s.rend with queue := q } }) m i))
      · exact fun _ => .refl _

theorem memory_consumeDecay {s : State} (m : MemoryLaw s) : MemoryLaw s.consumeDecay :=
  (RecordsKept.consumeDecay (shown := True) s).memory m

theorem allFaded_resume {s : State} (m : MemoryLaw s) : AllFaded s s.resume := by
  unfold State.resume
  split
  · exact fun _ => .refl _
  · exact allFaded_takeRender (s := s.consumeDecay) (memory_consumeDecay m) _

theorem Faded.current {g h : Seg} (k : Faded g h) (hg : g.current = false) : h.current = false := by
  rcases k with rfl | rfl | rfl
  · exact hg
  · exact hg
  · rfl

theorem Faded.free {g h : Seg} (k : Faded g h) (hg : g.state = .free) : h.state = .free := by
  rcases k with rfl | rfl | rfl
  · exact hg
  · exact hg
  · rfl

theorem Faded.blank {h : Seg} (k : Faded Seg.blank h) : h = Seg.blank := by rcases k with rfl | rfl | rfl <;> rfl

/-- A record that has faded is blank or refers to the same snapshot. -/
theorem Faded.snap {g h : Seg} (k : Faded g h) (hn : h ≠ Seg.blank) : h.snap = g.snap := by
  rcases k with rfl | rfl | rfl
  · rfl
  · rfl
  · exact absurd rfl hn

/-- What keeps segment i whatever the renderer does with it keeps its record, the flag apart, and its place in the
sequence list. -/
def StaysStill (s t : State) (i : Nat) : Prop :=
  KeptStill t i ∧ (∃ b, t.acq.seg i = { s.acq.seg i with pending := b }) ∧ (i ∈ s.acq.seqList → i ∈ t.acq.seqList)

theorem StaysStill.trans {s t u : State} {i : Nat} (h : StaysStill s t i) (k : StaysStill t u i) : StaysStill s u i := by
  obtain ⟨-, ⟨_, h⟩, hl⟩ := h
  obtain ⟨hk, ⟨_, k⟩, kl⟩ := k
  exact ⟨hk, ⟨_, by rw [k, h]⟩, kl ∘ hl⟩

theorem staysStill_refl {s : State} {i : Nat} (h : KeptStill s i) : StaysStill s s i := ⟨h, ⟨_, rfl⟩, id⟩

theorem KeptStill.kept {s : State} {i : Nat} (h : KeptStill s i) : Kept s i :=
  h.imp id fun h => ⟨h.1, h.2.elim .inl fun k => .inr (.inr k)⟩

theorem KeptStill.of_eq {s t : State} {i : Nat} (h : KeptStill s i) (hs : t.slots = s.slots)
    (hg : ∃ b, t.acq.seg i = { s.acq.seg i with pending := b }) (hl : i ∈ s.acq.seqList → i ∈ t.acq.seqList) :
    KeptStill t i := by
  obtain ⟨b, hg⟩ := hg
  rw [KeptStill, hg, hs]
  exact h.imp id fun h => ⟨h.1, h.2.imp id hl⟩

theorem staysStill_freeIfUnkept {s : State} (m : MemoryLaw s) {i : Nat} (h : KeptStill s i) (j : Nat) :
    StaysStill s (s.freeIfUnkept j) i := by
  unfold State.freeIfUnkept
  split
  · next hc =>
    have hne : i ≠ j := fun e => by
      have := (kept_iff s i).2 h.kept
      rw [e, hc.2] at this
      cases this
    have hseg : (s.freeSeg j).acq.seg i = s.acq.seg i := by rw [seg_freeSeg m, if_neg hne]
    have hlist (k : i ∈ s.acq.seqList) : i ∈ (s.freeSeg j).acq.seqList := List.mem_filter.2 ⟨k, by simpa using hne⟩
    exact ⟨h.of_eq rfl ⟨_, hseg⟩ hlist, ⟨_, hseg⟩, hlist⟩
  · exact staysStill_refl h

theorem staysStill_clearPending {s : State} (m : MemoryLaw s) {i : Nat} (h : KeptStill s i) (j : Nat) :
    StaysStill s (s.clearPending j) i := by
  have set : StaysStill s (s.setSeg j { s.seg j with pending := false }) i := by
    have hseg := seg_setSeg m j { s.seg j with pending := false } i
    have hg : ∃ b, (s.setSeg j { s.seg j with pending := false }).acq.seg i = { s.acq.seg i with pending := b } := by
      split at hseg
      · next e => exact ⟨false, by rw [hseg, e]; rfl⟩
      · exact ⟨_, hseg⟩
    exact ⟨h.of_eq rfl hg id, hg, id⟩
  exact set.trans (staysStill_freeIfUnkept (memory_setSeg m j _) set.1 j)

theorem staysStill_abandonRender {s : State} (m : MemoryLaw s) {i : Nat} (h : KeptStill s i) :
    StaysStill s s.abandonRender i := by
  unfold State.abandonRender
  split
  · next r _ => exact staysStill_clearPending (s := { s with rend := { s.rend with render := none } }) m h r.seg
  · exact staysStill_refl h

theorem staysStill_clearRasters {s : State} (m : MemoryLaw s) {i : Nat} (h : KeptStill s i) :
    StaysStill s s.clearRasters i :=
  staysStill_abandonRender (s := { s with rend := { s.rend with rasters := [] } }) ⟨m.1, m.2.1, rfl, m.2.2.2⟩ h

theorem staysStill_handOff {s : State} (m : MemoryLaw s) {i : Nat} (h : KeptStill s i) (j : Nat) :
    StaysStill s (s.handOff j) i := by
  have room : StaysStill s s.makeRoom i := by
    unfold State.makeRoom
    split
    · exact staysStill_refl h
    · split
      · next k q _ => exact staysStill_clearPending (s := { s with rend := { s.rend with queue := q } }) m h k
      · exact staysStill_refl h
  unfold State.handOff
  split
  · exact staysStill_refl h
  · refine room.trans ?_
    have mr : MemoryLaw s.makeRoom := (RecordsKept.makeRoom (shown := True) s).memory m
    have hseg := seg_setSeg (s := { s.makeRoom with rend := { s.makeRoom.rend with queue := s.makeRoom.rend.queue ++ [j] } })
      mr j { s.makeRoom.seg j with pending := true } i
    have hg : ∃ b, (s.makeRoom.enqueue j).acq.seg i = { s.makeRoom.acq.seg i with pending := b } := by
      split at hseg
      · next e => exact ⟨true, hseg.trans (by rw [e]; rfl)⟩
      · exact ⟨_, hseg⟩
    exact ⟨room.1.of_eq rfl hg id, hg, id⟩

theorem staysStill_takeRender {s : State} (m : MemoryLaw s) {i : Nat} (h : KeptStill s i) (n : Nat) :
    StaysStill s (s.takeRender n) i := by
  induction n generalizing s with
  | zero => exact staysStill_refl h
  | succ n ih =>
    unfold State.takeRender
    split
    · exact staysStill_refl h
    · next j q _ =>
      dsimp only
      split
      · have cleared := staysStill_clearPending (s := { s with rend := { s.rend with queue := q } }) m h j
        exact cleared.trans (ih (memory_clearPending (s := { s with rend := { s.rend with queue := q } }) m j) cleared.1)
      · exact staysStill_refl h

theorem staysStill_resume {s : State} (m : MemoryLaw s) {i : Nat} (h : KeptStill s i) : StaysStill s s.resume i := by
  unfold State.resume
  split
  · exact staysStill_refl h
  · exact staysStill_takeRender (s := s.consumeDecay) (memory_consumeDecay m) h _

/-! ## An act -/

/-- The renderer and the trigger unit have moved and, of the acquisition, all but the run mode, the counters of completed
segments and the samples. -/
def ActMoved (s t : State) : Prop :=
  ∃ a x r, t = { s with acq := a, trig := x, rend := r }
    ∧ (a.mode, a.counter, a.samples, a.seqCount) = (s.acq.mode, s.acq.counter, s.acq.samples, s.acq.seqCount)

theorem StoreMoved.act {s t : State} (h : StoreMoved s t) : ActMoved s t := by
  obtain ⟨_, _, _, _, rfl, -⟩ := h
  exact ⟨_, _, _, rfl, rfl⟩

namespace ActMoved

theorem refl (s : State) : ActMoved s s := ⟨_, _, _, rfl, rfl⟩

theorem trans {s t u : State} (h : ActMoved s t) (k : ActMoved t u) : ActMoved s u := by
  obtain ⟨_, _, _, rfl, h⟩ := h
  obtain ⟨_, _, _, rfl, k⟩ := k
  exact ⟨_, _, _, rfl, k.trans h⟩

theorem ite {s t u : State} {c : Prop} [Decidable c] (h : ActMoved s t) (k : ActMoved s u) :
    ActMoved s (if c then t else u) := by split <;> assumption

theorem takeTrigger (s : State) (auto : Bool) : ActMoved s (s.takeTrigger auto) := by
  unfold State.takeTrigger
  split <;> exact ⟨_, _, _, rfl, rfl⟩

theorem passToReady (s : State) : ActMoved s s.passToReady :=
  ite (.trans ⟨_, _, _, rfl, rfl⟩ (takeTrigger _ _)) ⟨_, _, _, rfl, rfl⟩

theorem enterFilling (s : State) (i e : Nat) (snaps : List Snap) : ActMoved s (s.enterFilling i e snaps) :=
  ite (.trans ⟨_, _, _, rfl, rfl⟩ (passToReady _)) ⟨_, _, _, rfl, rfl⟩

theorem reuseCurrent (s : State) : ActMoved s s.reuseCurrent := by
  unfold State.reuseCurrent
  split
  · exact refl s
  · split
    · exact ite (StoreMoved.freeSeg s _).act (refl s)
    · exact refl s

theorem arm (s : State) : ActMoved s s.arm := by
  refine ite ?_ ⟨_, _, _, rfl, rfl⟩
  unfold State.slotChoice
  dsimp only
  split
  · exact (reuseCurrent s).trans (enterFilling _ _ _ _)
  · exact (reuseCurrent s).trans ⟨_, _, _, rfl, rfl⟩

theorem retryWait (s : State) : ActMoved s s.retryWait := ite (arm s) (refl s)

theorem finishAct (s : State) : ActMoved s s.finishAct := (StoreMoved.resume s).act.trans (retryWait _)

theorem port {s t : State} (h : ActMoved s t) (p : Port) : t.port p = s.port p := by
  obtain ⟨_, _, _, rfl, -⟩ := h
  cases p <;> rfl

theorem setup {s t : State} (h : ActMoved s t) : t.setup = s.setup := by
  obtain ⟨_, _, _, rfl, -⟩ := h
  rfl

theorem fe {s t : State} (h : ActMoved s t) : t.fe = s.fe := by
  obtain ⟨_, _, _, rfl, -⟩ := h
  rfl

theorem counters {s t : State} (h : ActMoved s t) : t.acq.mode = s.acq.mode ∧ t.acq.counter = s.acq.counter
    ∧ t.acq.samples = s.acq.samples ∧ t.acq.seqCount = s.acq.seqCount := by
  obtain ⟨_, _, _, rfl, h⟩ := h
  simp only [Prod.mk.injEq] at h
  exact h

theorem blocks {s t : State} (h : ActMoved s t) : BlocksSame s t := by
  obtain ⟨_, _, _, rfl, -⟩ := h
  exact ⟨rfl, rfl, rfl, rfl, rfl, rfl, rfl, rfl, rfl, rfl⟩

end ActMoved

/-- The rasters, and the decay that is due. -/
def Renderer.drawn (r : Renderer) : Cells Byte × Bool := (r.rasters, r.decayDue)

/-- Slot choice draws nothing. -/
theorem drawn_retryWait (s : State) : s.retryWait.rend.drawn = s.rend.drawn := by
  have reused (s : State) : s.reuseCurrent.rend.drawn = s.rend.drawn := by
    unfold State.reuseCurrent
    split
    · rfl
    · split
      · split <;> rfl
      · rfl
  have entered (s : State) (i e : Nat) (snaps : List Snap) : (s.enterFilling i e snaps).rend = s.rend := by
    unfold State.enterFilling
    dsimp only
    split
    · exact rend_passToReady _
    · rfl
  unfold State.retryWait State.arm State.slotChoice
  split
  · split
    · dsimp only
      split
      · rw [entered, reused]
      · exact reused s
    · rfl
  · rfl

/-- The renderer that takes segments draws nothing. -/
theorem drawn_clearPending (s : State) (i : Nat) : (s.clearPending i).rend.drawn = s.rend.drawn := by
  unfold State.clearPending State.freeIfUnkept
  split <;> rfl

theorem drawn_takeRender (s : State) (n : Nat) : (s.takeRender n).rend.drawn = s.rend.drawn := by
  induction n generalizing s with
  | zero => rfl
  | succ n ih =>
    unfold State.takeRender
    split
    · rfl
    · dsimp only
      split
      · rw [ih, drawn_clearPending]
        rfl
      · rfl

/-- An idle renderer that goes on has applied the decay that was due (R112, R123). -/
theorem drawn_resume {s : State} (h : s.rend.render = none) : s.resume.rend.drawn = s.consumeDecay.rend.drawn := by
  unfold State.resume
  rw [h]
  exact drawn_takeRender _ _

theorem retryWait_of_ne {s : State} (h : s.acq.state ≠ .waitSegment) : s.retryWait = s := if_neg h

/-- What ends an act, where nothing waits for a segment. -/
theorem finishAct_of_ne {s : State} (h : s.acq.state ≠ .waitSegment) : s.finishAct = s.resume :=
  retryWait_of_ne (by rw [(StoreMoved.resume s).state]; exact h)

/-- The retry of slot choice that ends an act. -/
theorem retried_retryWait {s : State} (m : MemoryLaw s) : Retried s s.retryWait :=
  ⟨fun h => by rw [State.retryWait, if_pos h]; exact armed_arm m.1, retryWait_of_ne⟩

/-- Segment i is COMPLETE, and slot choice does not reuse it: it is held or render-pending, or the run mode is SEQUENCE
(R90, R91). -/
def Unreusable (s : State) (i : Nat) : Prop :=
  (s.acq.seg i).state = .complete
    ∧ (0 < (s.acq.seg i).holdsA + (s.acq.seg i).holdsB ∨ (s.acq.seg i).pending = true ∨ s.acq.mode = .sequence)

/-- The segment that slot choice frees is another (R90). -/
theorem reuseCurrent_unreusable {s : State} {i : Nat} (h : Unreusable s i) :
    s.reuseCurrent = s ∨ ∃ j, j ≠ i ∧ s.reuseCurrent = s.freeSeg j := by
  obtain ⟨-, h⟩ := h
  unfold State.reuseCurrent
  split
  · exact .inl rfl
  · next hm =>
    split
    · next j _ _ =>
      split
      · next hr =>
        refine .inr ⟨j, ?_, rfl⟩
        rintro rfl
        simp only [State.reusable, Seg.holds, State.seg_eq, Bool.and_eq_true, decide_eq_true_eq, Bool.not_eq_true'] at hr
        obtain ⟨⟨-, h0⟩, hp⟩ := hr
        rcases h with h | h | h
        · exact absurd (of_decide_eq_true h0) (Nat.ne_of_gt h)
        · rw [hp] at h
          cases h
        · exact hm h
      · exact .inl rfl
    · exact .inl rfl

theorem memory_reuseCurrent {s : State} (m : MemoryLaw s) : MemoryLaw s.reuseCurrent :=
  (StoreKept.reuseCurrent (shown := True) (calm := True) s).memory m

theorem seg_reuseCurrent_unreusable {s : State} (m : MemoryLaw s) {i : Nat} (h : Unreusable s i) :
    s.reuseCurrent.acq.seg i = s.acq.seg i := by
  rcases reuseCurrent_unreusable h with e | ⟨j, hj, e⟩
  · rw [e]
  · rw [e, seg_freeSeg m, if_neg (Ne.symm hj)]

/-- Slot choice touches no segment that it cannot reuse (R85, R90). -/
theorem seg_arm_unreusable {s : State} (m : MemoryLaw s) {i : Nat} (h : Unreusable s i) : s.arm.acq.seg i = s.acq.seg i := by
  have reused := seg_reuseCurrent_unreusable m h
  unfold State.arm State.slotChoice
  split
  · dsimp only
    split
    · next j e snaps hj ho =>
      have mr := memory_reuseCurrent m
      have hne : i ≠ j := by
        rintro rfl
        have := ((slotTaken_iff mr.1 i).2 hj).2.1.1
        rw [reused, h.1] at this
        cases this
      rw [(fillingEntered_enterFilling mr.1 j ho).others i hne, reused]
    · exact reused
  · rfl

/-- Slot choice touches no segment that is COMPLETE and held (R85, R90). -/
theorem seg_retryWait_held {s : State} (m : MemoryLaw s) {i : Nat} (hc : (s.acq.seg i).state = .complete)
    (hh : 0 < (s.acq.seg i).holdsA + (s.acq.seg i).holdsB) : s.retryWait.acq.seg i = s.acq.seg i := by
  unfold State.retryWait
  split
  · exact seg_arm_unreusable m ⟨hc, .inl hh⟩
  · rfl

end Sys2Proof.Machine
end

section
/-!
SUPPORT. The segments that the idle renderer takes from its queue (R112, R114); and what becomes of a segment as a port's
hold of it is given back (R87, R102).
-/

namespace Sys2Proof.Machine

/-! ## The idle renderer takes a segment (R112) -/

theorem renderFormed_formRender (s : State) (i : Nat) : RenderFormed s i (s.formRender i) :=
  ⟨rfl, rfl, rfl, rfl, rfl, rfl, rfl, rfl, rfl⟩

/-- A render record has no channel in hand exactly where the segment's snapshot enables none. -/
theorem chans_formRender (s : State) (i : Nat) :
    (s.formRender i).chans.isEmpty = true ↔ s.acq.segChannels (s.acq.seg i) = [] := by
  rw [List.isEmpty_iff]
  exact List.map_eq_nil_iff

/-- The renderer of s has taken the first segment of its queue with a channel to draw, and is done with those before it. -/
structure TakenFrom (s u : State) (skipped : List Nat) : Prop where
  moved : StoreMoved s u
  split : s.rend.queue = skipped ++ (u.rend.render.map (·.seg)).toList ++ u.rend.queue
  empty : ∀ j ∈ skipped, s.acq.segChannels (s.acq.seg j) = []
  none : u.rend.render = none → u.rend.queue = []
  formed : ∀ r, u.rend.render = some r → s.acq.segChannels (s.acq.seg r.seg) ≠ [] ∧ RenderFormed s r.seg r
  others : ∀ j, j ∉ skipped → u.acq.seg j = s.acq.seg j

/-- The oldest leaves the queue, and its flag is cleared: the queue is the rest of it. -/
theorem queue_skip {s : State} (h : QueueLaws s) {i : Nat} {q : List Nat} (hq : s.rend.queue = i :: q) :
    (State.clearPending { s with rend := { s.rend with queue := q } } i).rend.queue = q := by
  have hn := h.nodup
  rw [hq, List.nodup_cons] at hn
  unfold State.clearPending State.freeIfUnkept
  split
  · exact List.filter_eq_self.2 fun j hj => by
      rw [bne_iff_ne]
      exact fun e => hn.1 (e ▸ hj)
  · rfl

theorem taken_takeRender {s : State} (m : MemoryLaw s) (h : QueueLaws s) (hr : s.rend.render = none) {n : Nat}
    (hn : s.rend.queue.length ≤ n) : ∃ skipped, TakenFrom s (s.takeRender n) skipped := by
  induction n generalizing s with
  | zero =>
    have hq : s.rend.queue = [] := List.length_eq_zero_iff.1 (Nat.le_zero.1 hn)
    refine ⟨[], .refl s, ?_, by simp, fun _ => hq, fun r k => ?_, fun _ _ => rfl⟩
    · simp [State.takeRender, hq, hr]
    · rw [State.takeRender, hr] at k
      cases k
  | succ n ih =>
    have moved := StoreMoved.takeRender s (n + 1)
    unfold State.takeRender at moved ⊢
    split at moved
    · next hq => exact ⟨[], .refl s, by simp [hq, hr], by simp, fun _ => hq, fun r k => by simp [hr] at k, fun _ _ => rfl⟩
    · next i q hq =>
      have hn' := h.nodup
      rw [hq, List.nodup_cons] at hn'
      dsimp only at moved ⊢
      split at moved
      · next hc =>
        rw [if_pos hc]
        have clear := StoreMoved.doneWith s { s.rend with queue := q } i
        have others (j : Nat) (hj : j ≠ i) :
            (State.clearPending { s with rend := { s.rend with queue := q } } i).acq.seg j = s.acq.seg j :=
          seg_clearPending_ne (s := { s with rend := { s.rend with queue := q } }) m hj
        have hqueue := queue_skip h hq
        rw [hq, List.length_cons] at hn
        obtain ⟨skipped, t⟩ := ih (memory_clearPending (s := { s with rend := { s.rend with queue := q } }) m i) (h.skip m hq)
          (render_clearPending (s := { s with rend := { s.rend with queue := q } }) hr i)
          (by rw [hqueue]; exact Nat.le_of_succ_le_succ hn)
        have split' := t.split
        rw [hqueue] at split'
        have later (j : Nat) (hj : j ∈ q) : j ≠ i := fun e => hn'.1 (e ▸ hj)
        refine ⟨i :: skipped, moved, hq.trans (congrArg (i :: ·) split'), ?_, t.none, fun r k => ?_, fun j hj => ?_⟩
        · rintro j hj
          rcases List.mem_cons.1 hj with rfl | hj
          · exact (chans_formRender s j).1 hc
          · have hji := later j (split' ▸ List.mem_append_left _ (List.mem_append_left _ hj))
            have := t.empty j hj
            rwa [others j hji, clear.segChannels rfl] at this
        · have hji := later r.seg (split' ▸ List.mem_append_left _ (List.mem_append_right _ (by simp [k])))
          have := t.formed r k
          rwa [others _ hji, clear.segChannels rfl, clear.formed (by rw [others _ hji])] at this
        · rw [List.mem_cons, not_or] at hj
          rw [t.others j hj.2, others j hj.1]
      · next hc =>
        rw [if_neg hc]
        refine ⟨[], moved, by simp [hq, State.formRender], by simp, fun k => by simp at k, fun r k => ?_, fun _ _ => rfl⟩
        obtain rfl : s.formRender i = r := Option.some.inj k
        exact ⟨fun e => hc ((chans_formRender s i).2 e), renderFormed_formRender s i⟩

/-- An idle renderer goes on by its queue (R112). -/
theorem resume_of_idle {s : State} (hr : s.rend.render = none) :
    s.resume = s.consumeDecay.takeRender s.rend.queue.length := by
  unfold State.resume
  rw [hr]

theorem taken_resume {s : State} (m : MemoryLaw s) (h : QueueLaws s) (hr : s.rend.render = none) :
    ∃ skipped, TakenFrom s s.resume skipped := by
  obtain ⟨skipped, t⟩ := taken_takeRender (s := s.consumeDecay) (memory_consumeDecay m) (h.alike (fun _ => rfl) rfl rfl) hr
    (n := s.rend.queue.length) le_rfl
  rw [resume_of_idle hr]
  exact ⟨skipped, (StoreMoved.rend s _).trans t.moved, t.split, t.empty, t.none, t.formed, t.others⟩

/-- A segment with a channel to draw is not passed over. -/
theorem TakenFrom.drawn {s u : State} {skipped : List Nat} (t : TakenFrom s u skipped) {j : Nat}
    (h : j ∉ s.rend.queue ∨ s.acq.segChannels (s.acq.seg j) ≠ []) : u.acq.seg j = s.acq.seg j := by
  refine t.others j fun hj => ?_
  rcases h with h | h
  · exact h (by rw [t.split]; exact List.mem_append_left _ (List.mem_append_left _ hj))
  · exact h (t.empty j hj)

/-- The renderer has taken from the queue of a state whose records those that wait still have. -/
theorem TakenFrom.renderTaken {s r u : State} {skipped : List Nat} (t : TakenFrom s u skipped) (hn : s.rend.queue.Nodup)
    (hm : ValsSame r.acq s.acq) (hseg : ∀ j ∈ s.rend.queue, s.acq.seg j = r.acq.seg j) : RenderTaken r u s.rend.queue := by
  have chans (j : Nat) (hj : j ∈ s.rend.queue) : s.acq.segChannels (s.acq.seg j) = r.acq.segChannels (r.acq.seg j) := by
    rw [hm.segChannels rfl, hseg j hj]
  refine ⟨skipped, t.split, fun j hj => ?_, t.none, fun x hx => ?_⟩
  · rw [← chans j (by rw [t.split]; exact List.mem_append_left _ (List.mem_append_left _ hj))]
    exact t.empty j hj
  · have hx' : x.seg ∈ (u.rend.render.map (·.seg)).toList := by simp [hx]
    have hxq : x.seg ∈ s.rend.queue := by rw [t.split]; exact List.mem_append_left _ (List.mem_append_right _ hx')
    have hskip : x.seg ∉ skipped := fun k => by
      rw [t.split, List.append_assoc] at hn
      exact (List.nodup_append.1 hn).2.2 _ k _ (List.mem_append_left _ hx') rfl
    obtain ⟨hc, hf⟩ := t.formed x hx
    exact ⟨chans _ hxq ▸ hc, (t.moved.formed (by rw [t.others _ hskip])).2 hf⟩

/-- A renderer that obeys R107 has nothing to go on with. -/
theorem resume_of_law {s : State} (h : RenderQueueLaw s) : s.resume = s := by
  unfold State.resume
  split
  · rfl
  · next hr =>
    obtain ⟨hq, hd⟩ := ((renderQueueLaw_iff s).1 h).2 hr
    rw [hq]
    change s.consumeDecay = s
    have same : ({ s.rend with decayDue := false } : Renderer) = s.rend := by rw [← hd]
    simp only [State.consumeDecay, hd, Bool.false_eq_true, if_false, same]

end Sys2Proof.Machine
end

section
/-!
SUPPORT. A port's hold is given back, at the end of an act (R87, R102): the records, the renderer and slot choice.
-/

namespace Sys2Proof.Machine

theorem updHolds_of_zero (g : Seg) (p : Port) : g.updHolds p (· - 0) = g := by cases p <;> rfl

/-- The record with one hold less is kept by what kept the segment with one hold less. -/
theorem kept_lessHold {s : State} (m : MemoryLaw s) {p : Port} {i : Nat} (hp : 0 < (s.acq.seg i).portHolds p) :
    Kept (s.setSeg i ((s.seg i).updHolds p (· - 1))) i ↔ KeptLess s 1 i := by
  have hseg := seg_setSeg m i ((s.seg i).updHolds p (· - 1)) i
  rw [if_pos rfl] at hseg
  have hsum : 0 < ((s.acq.seg i).updHolds p (· - 1)).holdsA + ((s.acq.seg i).updHolds p (· - 1)).holdsB
      ↔ 1 < (s.acq.seg i).holdsA + (s.acq.seg i).holdsB := by
    cases p <;> simp [Seg.updHolds, Seg.portHolds] at hp ⊢ <;> omega
  rw [Kept, KeptLess, KeptLess, hseg]
  exact or_congr hsum Iff.rfl

theorem lessHold_of_kept {s : State} (m : MemoryLaw s) {p : Port} {i : Nat} (hp : 0 < (s.acq.seg i).portHolds p)
    (hk : KeptLess s 1 i) : s.lessHold p i = s.setSeg i ((s.seg i).updHolds p (· - 1)) :=
  if_neg fun h => by
    rw [(kept_iff _ i).2 ((kept_lessHold m hp).2 hk)] at h
    exact Bool.noConfusion h.2

theorem lessHold_of_not_kept {s : State} (m : MemoryLaw s) {p : Port} {i : Nat} (hc : (s.acq.seg i).state = .complete)
    (hp : 0 < (s.acq.seg i).portHolds p) (hk : ¬ KeptLess s 1 i) :
    s.lessHold p i = (s.setSeg i ((s.seg i).updHolds p (· - 1))).freeSeg i := by
  refine if_pos ⟨?_, ?_⟩
  · rw [State.seg_eq, seg_setSeg m, if_pos rfl]
    exact hc
  · rw [← Bool.not_eq_true, kept_iff, kept_lessHold m hp]
    exact hk

theorem storeMoved_lessHold (s : State) (p : Port) (i : Nat) : StoreMoved s (s.lessHold p i) :=
  (StoreMoved.setSeg s i _).trans (.freeIfUnkept _ i)

theorem QueueLaws.lessHold {s : State} (m : MemoryLaw s) (h : QueueLaws s) (p : Port) (i : Nat) :
    QueueLaws (s.lessHold p i) := by
  have set : QueueLaws (s.setSeg i ((s.seg i).updHolds p (· - 1))) :=
    h.put m rfl rfl (h.used i) fun hp => (h.flagged i hp).resolve_right id
  exact set.freeIfUnkept (memory_setSeg m i _) id

theorem seg_lessHold_ne {s : State} (m : MemoryLaw s) (p : Port) {i j : Nat} (h : j ≠ i) :
    (s.lessHold p i).acq.seg j = s.acq.seg j := by
  rw [State.lessHold, seg_freeIfUnkept_ne (memory_setSeg m i _) h, seg_setSeg m, if_neg h]

theorem seg_lessHold_self {s : State} (m : MemoryLaw s) {p : Port} {i : Nat} (hc : (s.acq.seg i).state = .complete)
    (hp : 0 < (s.acq.seg i).portHolds p) :
    (KeptLess s 1 i → (s.lessHold p i).acq.seg i = (s.acq.seg i).updHolds p (· - 1))
      ∧ (¬ KeptLess s 1 i → (s.lessHold p i).acq.seg i = Seg.blank) := by
  refine ⟨fun hk => ?_, fun hk => ?_⟩
  · rw [lessHold_of_kept m hp hk, seg_setSeg m, if_pos rfl, State.seg_eq]
  · rw [lessHold_of_not_kept m hc hp hk, seg_freeSeg (memory_setSeg m i _), if_pos rfl]

/-- One hold of segment i has been given back, and the renderer has gone on: the state u has the records and the renderer of
the giving back, whatever its ports. -/
theorem holdsGivenBack_lessHold {s u : State} (m : MemoryLaw s) (h : RenderQueueLaw s) {p : Port} {i : Nat}
    (hc : (s.acq.seg i).state = .complete) (hp : 0 < (s.acq.seg i).portHolds p) (mu : MemoryLaw u)
    (hacq : u.acq = (s.lessHold p i).acq) (hrend : u.rend = (s.lessHold p i).rend) (hside : u.trig = s.trig ∧ u.fe = s.fe) :
    HoldsGivenBack s u.resume p fun j => if j = i then 1 else 0 := by
  obtain ⟨hq, hrest⟩ := (renderQueueLaw_iff s).1 h
  have qu : QueueLaws u := QueueBut.alike (hq.lessHold m p i) (fun j => by rw [hacq]; rfl) (by rw [hrend]) (by rw [hrend])
  have segs (j : Nat) : u.acq.seg j = (s.lessHold p i).acq.seg j := by rw [hacq]
  have moved := storeMoved_lessHold s p i
  have vals : ValsSame s.acq u.acq := hacq ▸ moved.vals
  have others {j : Nat} (hj : j ≠ i) : u.acq.seg j = s.acq.seg j := (segs j).trans (seg_lessHold_ne m p hj)
  obtain ⟨staying, going⟩ := seg_lessHold_self m hc hp
  have hv := StoreMoved.resume u
  have acq : u.resume.acq = { s.acq with
      segs := u.resume.acq.segs, snaps := u.resume.acq.snaps, seqList := u.resume.acq.seqList } := by
    rw [hv.acq, hacq, moved.acq]
  have alone : u.resume.trig = s.trig ∧ u.resume.fe = s.fe := by rw [hv.eq]; exact hside
  by_cases hk : KeptLess s 1 i
  · have hr : u.rend = s.rend := by rw [hrend, lessHold_of_kept m hp hk]; rfl
    have same : u.resume = u := resume_of_law ((renderQueueLaw_iff u).2 ⟨qu, hrest.of_rend hr⟩)
    have all (j : Nat) : (if j = i then 1 else 0) = 0 ∨ KeptLess s (if j = i then 1 else 0) j := by
      split
      · next e => exact .inr (e ▸ hk)
      · exact .inl rfl
    refine ⟨acq, alone, fun j hn hj => absurd (all j) ?_, fun j _ _ => ?_, s.rend.queue, .refl _, fun j => ?_, fun _ => ?_,
      fun r _ hn hj => absurd (all r.seg) ?_⟩
    · exact fun k => k.elim (fun e => by omega) hj
    · rw [same, segs]
      split
      · next e => rw [e]; exact staying hk
      · next e => rw [seg_lessHold_ne m p e, updHolds_of_zero]
    · exact ⟨fun k => ⟨k, all j⟩, And.left⟩
    · rw [same, hr]
    · exact fun k => k.elim (fun e => by omega) hj
  · have hfree := lessHold_of_not_kept m hc hp hk
    have hqueue : u.rend.queue = s.rend.queue.filter (· != i) := by rw [hrend, hfree]; rfl
    have hrender : u.rend.render = s.rend.render.filter fun r => r.seg != i := by rw [hrend, hfree]; rfl
    have hdrawn : u.rend = { s.rend with queue := u.rend.queue, render := u.rend.render } := by rw [hrend, hfree]; rfl
    have stay (j : Nat) : ((if j = i then 1 else 0) = 0 ∨ KeptLess s (if j = i then 1 else 0) j) ↔ j ≠ i := by
      split
      · next e => exact ⟨fun k => absurd k (by simp [e, hk]), fun k => absurd e k⟩
      · next e => simp [e]
    have one {j : Nat} (hn : 0 < if j = i then 1 else 0) : j = i := by
      by_contra e
      rw [if_neg e] at hn
      omega
    have hmem (j : Nat) : j ∈ u.rend.queue ↔ j ∈ s.rend.queue ∧ ((if j = i then 1 else 0) = 0
        ∨ KeptLess s (if j = i then 1 else 0) j) := by
      rw [stay, hqueue, List.mem_filter, bne_iff_ne]
    have hsub : u.rend.queue.Sublist s.rend.queue := hqueue ▸ List.filter_sublist
    have record {j : Nat} (hj : j ≠ i) : (s.acq.seg j).updHolds p (· - if j = i then 1 else 0) = s.acq.seg j := by
      rw [if_neg hj, updHolds_of_zero]
    by_cases hri : ∃ r, s.rend.render = some r ∧ r.seg = i
    · obtain ⟨r, hr, hri⟩ := hri
      have hnone : u.rend.render = none := by rw [hrender, hr]; simp [hri]
      obtain ⟨skipped, t⟩ := taken_resume mu qu hnone
      have waiting {j : Nat} (hj : j ∈ u.rend.queue) : j ≠ i := (stay j).1 ((hmem j).1 hj).2
      refine ⟨acq, alone, fun j hn _ => ?_, fun j hj hd => ?_, u.rend.queue, hsub, hmem, fun k => ?_, fun _ _ _ _ => ?_⟩
      · obtain rfl := one hn
        rw [t.drawn (.inl fun k => waiting k rfl), segs]
        exact going hk
      · have hji := (stay j).1 hj
        rw [record hji, t.drawn, others hji]
        rw [others hji, vals.segChannels rfl]
        exact hd.imp (fun k c => k (hsub.subset c)) id
      · exact absurd hri ((stay r.seg).1 (k r hr))
      · refine ⟨t.renderTaken qu.nodup vals fun j hj => others (waiting hj), ?_⟩
        exact congrArg Prod.snd (drawn_resume hnone)
    · have hsame : u.rend.render = s.rend.render := by
        rw [hrender]
        cases hr : s.rend.render with
        | none => rfl
        | some r => simpa using fun e => hri ⟨r, hr, e⟩
      have resting : Resting u := fun k => by
        obtain ⟨h1, h2⟩ := hrest (hsame ▸ k)
        rw [hqueue, hdrawn, h1]
        exact ⟨rfl, h2⟩
      have same : u.resume = u := resume_of_law ((renderQueueLaw_iff u).2 ⟨qu, resting⟩)
      refine ⟨acq, alone, fun j hn _ => ?_, fun j hj _ => ?_, u.rend.queue, hsub, hmem, fun _ => ?_, fun r hr hn _ => ?_⟩
      · obtain rfl := one hn
        rw [same, segs]
        exact going hk
      · have hji := (stay j).1 hj
        rw [same, record hji, others hji]
      · rw [same, hdrawn, hsame]
      · exact absurd ⟨r, hr, one hn⟩ hri

end Sys2Proof.Machine
end

section
/-!
SUPPORT. HOLD and RELEASE, and the requests that begin to give data (R102, R103, R145).
-/

namespace Sys2Proof.Machine

/-! ## References (R184) -/

theorem aboveAll_iff (ws : List Word) : segRef (par ws 0) = .above ↔ AboveAll (par ws 0) :=
  (segRef_above ws).trans And.comm

theorem resolveSeg_named {s : State} {ws : List Word} (h : ¬ AboveAll (par ws 0)) :
    s.resolveSeg (segRef (par ws 0)) = named s (par ws 0) := resolveSeg_eq (mt (aboveAll_iff ws).1 h)

/-- HOLD by its reference. -/
theorem exec_hold {s : State} {p : Port} {ws : List Word} (h : Offers s p kindHold ws) :
    (AboveAll (par ws 0) → exec (.hold p) s = .next (s.respond p .badValue []))
      ∧ (¬ AboveAll (par ws 0) → exec (.hold p) s
        = .next (((named s (par ws 0)).map (s.hold p)).getD (s.respond p .noSegment []))) := by
  refine ⟨fun ha => (onRequest_offers h _).trans (congrArg _ ?_), fun ha => (onRequest_offers h _).trans (congrArg _ ?_)⟩
  · rw [(aboveAll_iff ws).2 ha]
  · rw [resolveSeg_named ha]
    cases hr : segRef (par ws 0) with
    | above => exact absurd ((aboveAll_iff ws).1 hr) ha
    | current => cases named s (par ws 0) <;> rfl
    | index i => cases named s (par ws 0) <;> rfl

/-- RELEASE by its reference. -/
theorem exec_release {s : State} {p : Port} {ws : List Word} (h : Offers s p kindRelease ws) :
    (AboveAll (par ws 0) → exec (.release p) s = .next (s.respond p .badValue []))
      ∧ (¬ AboveAll (par ws 0) → exec (.release p) s
        = .next (((named s (par ws 0)).map (s.releaseHold p)).getD (s.respond p .noSegment []))) := by
  refine ⟨fun ha => (onRequest_offers h _).trans (congrArg _ ?_), fun ha => (onRequest_offers h _).trans (congrArg _ ?_)⟩
  · rw [(aboveAll_iff ws).2 ha]
  · rw [resolveSeg_named ha]
    cases hr : segRef (par ws 0) with
    | above => exact absurd ((aboveAll_iff ws).1 hr) ha
    | current => cases named s (par ws 0) <;> rfl
    | index i => cases named s (par ws 0) <;> rfl

/-! ## A hold is taken (R102, R103) -/

theorem port_addHold (s : State) (p : Port) (i : Nat) (implicit : Bool) (q : Port) : (s.addHold p i implicit).port q
    = if q = p then { s.port q with holds := (s.port q).holds ++ [⟨i, implicit⟩] } else s.port q := by
  rw [State.addHold, port_updPort_ite, State.port_setSeg]

theorem seg_addHold {s : State} (m : MemoryLaw s) (p : Port) (i : Nat) (implicit : Bool) (j : Nat) :
    (s.addHold p i implicit).acq.seg j = if j = i then (s.acq.seg i).updHolds p (· + 1) else s.acq.seg j :=
  seg_setSeg m i _ j

theorem otherPort_ne (p : Port) : otherPort p ≠ p := by cases p <;> simp [otherPort]

/-- The request that takes a hold is answered: the port is as it was but for the hold and what a request owns. -/
theorem portKept_addHold {s t : State} {p : Port} {i : Nat} {implicit : Bool} (h : PortsKept (s.addHold p i implicit) t p) :
    (t.port p).holds = (s.port p).holds ++ [⟨i, implicit⟩]
      ∧ PortKept (s.port p) { t.port p with holds := (s.port p).holds } ∧ t.port (otherPort p) = s.port (otherPort p) := by
  obtain ⟨other, h1, h2, h3, h4, h5, h6, h7, h8, h9⟩ := h
  rw [port_addHold, if_neg (otherPort_ne p)] at other
  rw [port_addHold, if_pos rfl] at h1 h2 h3 h4 h5 h6 h7 h8 h9
  exact ⟨h7, ⟨h1, h2, h3, h4, h5, h6, rfl, h8, h9⟩, other⟩

theorem hold_incomplete {s : State} {i : Nat} (hc : (s.acq.seg i).state ≠ .complete) (p : Port) :
    s.hold p i = s.respond p .noSegment [] := if_pos hc

theorem hold_limit {s : State} {p : Port} {i : Nat} (hc : (s.acq.seg i).state = .complete)
    (hl : 4 ≤ (s.port p).holds.length) : s.hold p i = s.respond p .holdLimit [] :=
  (if_neg (not_not.2 hc)).trans (if_pos hl)

theorem hold_taken {s : State} {p : Port} {i : Nat} (hc : (s.acq.seg i).state = .complete)
    (hl : ¬ 4 ≤ (s.port p).holds.length) : s.hold p i
      = (s.addHold p i false).respond p .ok [word i, word ((s.acq.seg i).portHolds p + 1)] :=
  (if_neg (not_not.2 hc)).trans (if_neg hl)

/-! ## A hold is given back (R87, R102) -/

theorem lost_addHold (s : State) (p : Port) (i : Nat) (implicit : Bool) :
    ((s.addHold p i implicit).port p).lost = (s.port p).lost := by rw [port_addHold, if_pos rfl]

/-- A port gives a hold back, and the act ends: only that hold leaves the ports. -/
theorem port_giveHold (s : State) (p : Port) (i : Nat) (implicit : Bool) (q : Port) :
    ((s.dropHold p i implicit).finishAct).port q
      = if q = p then { s.port q with holds := (s.port q).holds.erase ⟨i, implicit⟩ } else s.port q := by
  rw [(ActMoved.finishAct _).port, holds_dropHold]

theorem BlocksSame.respond {s t : State} (h : BlocksSame s t) (p : Port) (c : Code) (ws : List Word) :
    BlocksSame s (t.respond p c ws) :=
  ⟨h.pending, h.straps, h.baseTick, h.holder, h.localDisabled, h.panel, h.comp, h.store, h.memLast, h.fbLast⟩

/-- What a hold that is given back leaves as it was. -/
theorem sides_giveHold (s : State) (p : Port) (i : Nat) (implicit : Bool) :
    let t := (s.dropHold p i implicit).finishAct
    BlocksSame s t ∧ t.setup = s.setup ∧ t.acq.counter = s.acq.counter ∧ t.acq.mode = s.acq.mode := by
  dsimp only
  rw [dropHold_eq]
  have less := (storeMoved_lessHold s p i).act
  have finish := ActMoved.finishAct ((s.lessHold p i).updPort p fun ps => { ps with holds := ps.holds.erase ⟨i, implicit⟩ })
  obtain ⟨b1, b2, b3, b4, b5, b6, b7, b8, b9, b10⟩ := less.blocks
  obtain ⟨c1, c2, c3, c4, c5, c6, c7, c8, c9, c10⟩ := finish.blocks
  refine ⟨⟨c1.trans b1, c2.trans b2, c3.trans b3, c4.trans b4, c5.trans b5, c6.trans b6, c7.trans b7, c8.trans b8,
    c9.trans b9, c10.trans b10⟩, finish.setup.trans less.setup, finish.counters.2.1.trans less.counters.2.1,
    finish.counters.1.trans less.counters.1⟩

theorem memory_dropHold {s : State} (m : MemoryLaw s) (p : Port) (i : Nat) (implicit : Bool) :
    MemoryLaw (s.dropHold p i implicit) := (PartKept.dropHold True s p i implicit).memory m

/-- A segment that another hold keeps stays COMPLETE, with one hold less. -/
theorem seg_giveHold_held {s : State} (m : MemoryLaw s) {p : Port} {i : Nat} (hc : (s.acq.seg i).state = .complete)
    (hh : 1 < (s.acq.seg i).holds) (implicit : Bool) :
    (((s.dropHold p i implicit).finishAct).acq.seg i).state = .complete
      ∧ (((s.dropHold p i implicit).finishAct).acq.seg i).portHolds p = (s.acq.seg i).portHolds p - 1 := by
  have hset := seg_setSeg m i ((s.seg i).updHolds p (· - 1)) i
  rw [if_pos rfl] at hset
  have hsum : 0 < ((s.acq.seg i).updHolds p (· - 1)).holdsA + ((s.acq.seg i).updHolds p (· - 1)).holdsB := by
    cases p <;> simp [Seg.updHolds, Seg.holds] at hh ⊢ <;> omega
  have hless : s.lessHold p i = s.setSeg i ((s.seg i).updHolds p (· - 1)) := if_neg fun h => by
    rw [(kept_iff _ i).2 (.inl (by rw [hset]; exact hsum))] at h
    exact Bool.noConfusion h.2
  have hdrop : (s.dropHold p i implicit).acq.seg i = (s.acq.seg i).updHolds p (· - 1) := by
    rw [dropHold_eq]
    exact (congrArg (fun u : State => u.acq.seg i) hless).trans hset
  have mu := memory_dropHold m p i implicit
  obtain ⟨-, ⟨b, hres⟩, -⟩ := staysStill_resume mu (i := i) (.inl (by rw [hdrop]; exact hsum))
  rw [hdrop] at hres
  have mr : MemoryLaw (s.dropHold p i implicit).resume := (StoreKept.resume (shown := True) (calm := True) _).memory mu
  have hend : ((s.dropHold p i implicit).finishAct).acq.seg i = { (s.acq.seg i).updHolds p (· - 1) with pending := b } := by
    rw [State.finishAct, seg_retryWait_held mr (by rw [hres]; exact hc) (by rw [hres]; exact hsum), hres]
  rw [hend]
  exact ⟨hc, by cases p <;> rfl⟩

/-- A segment whose last hold is given back, with nothing else that keeps it, is freed. -/
theorem seg_giveHold_last {s : State} (m : MemoryLaw s) {p : Port} {i : Nat} (hc : (s.acq.seg i).state = .complete)
    (hp : 0 < (s.acq.seg i).portHolds p) (hk : ¬ KeptLess s 1 i) (hw : s.acq.state ≠ .waitSegment) (implicit : Bool) :
    (((s.dropHold p i implicit).finishAct).acq.seg i).state = .free := by
  have hdrop : (s.dropHold p i implicit).acq.seg i = Seg.blank := by
    rw [dropHold_eq]
    exact (seg_lessHold_self m hc hp).2 hk
  have hstate : (s.dropHold p i implicit).acq.state = s.acq.state := by
    rw [dropHold_eq]
    exact (storeMoved_lessHold s p i).state
  rw [finishAct_of_ne (by rw [hstate]; exact hw)]
  exact (allFaded_resume (memory_dropHold m p i implicit) i).free (by rw [hdrop]; rfl)

theorem release_none {s : State} {p : Port} {i : Nat} (hp : (s.acq.seg i).portHolds p = 0) :
    s.releaseHold p i = s.respond p .noSegment [] := if_pos hp

theorem release_given {s : State} {p : Port} {i : Nat} (hp : (s.acq.seg i).portHolds p ≠ 0) : s.releaseHold p i
    = (s.dropHold p i false).finishAct.respond p .ok [word i, word ((s.acq.seg i).portHolds p - 1)] := if_neg hp

/-! ## HOLD and RELEASE -/

/-- Settles O37. -/
theorem holdAndRelease : Obligations.HoldAndRelease := by
  refine ⟨fun s p ws m ho => ?_, fun s p ws m ho => ?_⟩
  · obtain ⟨above, below⟩ := exec_hold ho
    by_cases ha : AboveAll (par ws 0)
    · exact ⟨_, above ha, by rw [if_pos ha]; exact onlyAnswered_respond s p _ _⟩
    · refine ⟨_, below ha, ?_⟩
      rw [if_neg ha]
      cases hn : named s (par ws 0) with
      | none => exact onlyAnswered_respond s p _ _
      | some i =>
        rw [Option.map_some, Option.getD_some]
        dsimp only
        split
        · next hc =>
          rw [hold_incomplete hc]
          exact onlyAnswered_respond s p _ _
        · next hc =>
          rw [not_not] at hc
          split
          · next hl =>
            rw [hold_limit hc hl]
            exact onlyAnswered_respond s p _ _
          · next hl =>
            rw [hold_taken hc hl]
            obtain ⟨holds, kept, other⟩ := portKept_addHold (portsKept_respond (s.addHold p i false) p .ok
              [word i, word ((s.acq.seg i).portHolds p + 1)])
            exact ⟨lost_addHold s p i false ▸ answered_respond _ p _ _, holds, kept, other, seg_addHold m p i false, by
              cases p <;> rfl⟩
  · obtain ⟨above, below⟩ := exec_release ho
    by_cases ha : AboveAll (par ws 0)
    · exact ⟨_, above ha, by rw [if_pos ha]; exact onlyAnswered_respond s p _ _⟩
    · refine ⟨_, below ha, ?_⟩
      rw [if_neg ha]
      cases hn : named s (par ws 0) with
      | none => exact onlyAnswered_respond s p _ _
      | some i =>
        rw [Option.map_some, Option.getD_some]
        dsimp only
        split
        · next hp =>
          rw [release_none hp]
          exact onlyAnswered_respond s p _ _
        · next hp =>
          rw [release_given hp]
          have port := port_giveHold s p i false
          obtain ⟨blocks, setup, counter, mode⟩ := sides_giveHold s p i false
          obtain ⟨other, kept⟩ := portsKept_respond (s.dropHold p i false).finishAct p .ok
            [word i, word ((s.acq.seg i).portHolds p - 1)]
          have answered := answered_respond (s.dropHold p i false).finishAct p .ok
            [word i, word ((s.acq.seg i).portHolds p - 1)]
          rw [port, if_pos rfl] at answered kept
          rw [port, if_neg (otherPort_ne p)] at other
          refine ⟨answered, kept.2.2.2.2.2.2.1, other, ?_, ?_, ?_, ?_, fun hc hh => seg_giveHold_held m hc hh false,
            fun hc hh hw hk => ?_⟩
          · exact blocks.respond p _ _
          · exact setup
          · exact counter
          · exact mode
          · refine seg_giveHold_last m hc (Nat.pos_of_ne_zero hp) (fun k => ?_) hw false
            rcases k with k | ⟨hlt, k⟩
            · rw [Seg.holds] at hh
              omega
            · rcases hk with hk | ⟨h1, h2, h3⟩
              · omega
              · simp [h1, h2, h3] at k

/-! ## READ_WAVEFORM and READ_SCREEN (R103, R145) -/

theorem mem_segChannels {a : Acq} {g : Seg} {n : Nat} (h1 : 1 ≤ n) (h4 : n ≤ 4) :
    n ∈ a.segChannels g ↔ a.snapVal g (8 * (n - 1)) = 1 := by
  have hn : n ∈ ([1, 2, 3, 4] : List Nat) := by simp; omega
  rw [Acq.segChannels, List.mem_filter, and_iff_right hn, decide_eq_true_iff]
  rfl

/-- The parameters of a READ_WAVEFORM that are refused before the segment is looked at (R103 steps 1 and 2). -/
abbrev WaveRefused (ws : List Word) : Prop :=
  AboveAll (par ws 0) ∨ parNat ws 1 < 1 ∨ 4 < parNat ws 1 ∨ (par32 ws 4).toNat = 0

section
variable {s : State} {p : Port} {ws : List Word} (h : Offers s p kindReadWaveform ws)
include h

theorem exec_readWaveform_refused (hr : WaveRefused ws) :
    exec (.readWaveform p) s = .next (s.respond p .badValue []) :=
  (onRequest_offers h _).trans (congrArg _ (if_pos (by rw [aboveAll_iff]; exact hr)))

theorem exec_readWaveform_none (hr : ¬ WaveRefused ws) (hn : named s (par ws 0) = none) :
    exec (.readWaveform p) s = .next (s.respond p .noSegment []) := by
  refine (onRequest_offers h _).trans (congrArg _ ((if_neg (by rw [aboveAll_iff]; exact hr)).trans ?_))
  rw [resolveSeg_named fun k => hr (.inl k), hn]

theorem exec_readWaveform_incomplete (hr : ¬ WaveRefused ws) {i : Nat} (hn : named s (par ws 0) = some i)
    (hc : (s.acq.seg i).state ≠ .complete) : exec (.readWaveform p) s = .next (s.respond p .noSegment []) := by
  refine (onRequest_offers h _).trans (congrArg _ ((if_neg (by rw [aboveAll_iff]; exact hr)).trans ?_))
  rw [resolveSeg_named fun k => hr (.inl k), hn]
  exact if_pos hc

theorem exec_readWaveform_complete (hr : ¬ WaveRefused ws) {i : Nat} (hn : named s (par ws 0) = some i)
    (hc : (s.acq.seg i).state = .complete) : exec (.readWaveform p) s
      = .next (s.readWave p i (parNat ws 1) (par32 ws 2).toNat (par32 ws 4).toNat) := by
  refine (onRequest_offers h _).trans (congrArg _ ((if_neg (by rw [aboveAll_iff]; exact hr)).trans ?_))
  rw [resolveSeg_named fun k => hr (.inl k), hn]
  exact if_neg (not_not.2 hc)

end

section
variable {s : State} {p : Port} {i ch start count : Nat}

theorem readWave_limit (hl : 4 ≤ (s.port p).holds.length) : s.readWave p i ch start count = s.respond p .holdLimit [] :=
  if_pos hl

theorem readWave_refused (hl : ¬ 4 ≤ (s.port p).holds.length) (h1 : 1 ≤ ch) (h4 : ch ≤ 4)
    (hr : s.acq.snapVal (s.acq.seg i) (8 * (ch - 1)) ≠ 1 ∨ s.acq.segLength (s.acq.seg i) ≤ start) :
    s.readWave p i ch start count = s.respond p .badValue [] := by
  refine (if_neg hl).trans (if_pos (hr.imp_left fun k => ?_))
  rw [← Bool.not_eq_true, List.contains_iff_mem, State.seg_eq, mem_segChannels h1 h4]
  exact k

theorem readWave_taken (hl : ¬ 4 ≤ (s.port p).holds.length) (h1 : 1 ≤ ch) (h4 : ch ≤ 4)
    (hr : ¬ (s.acq.snapVal (s.acq.seg i) (8 * (ch - 1)) ≠ 1 ∨ s.acq.segLength (s.acq.seg i) ≤ start)) :
    let g := s.acq.seg i
    let left := s.acq.segLength g - start
    s.readWave p i ch start count = (s.addHold p i true).respondOut p (if left < count then .clamped else .ok)
      (words32 g.seq ++ wordsNat g.p ++ wordsNat (min count left)) (.waveform i ch start (min count left)) := by
  rw [not_or, not_not, ← mem_segChannels h1 h4, ← List.contains_iff_mem, not_le] at hr
  unfold State.readWave
  dsimp only
  rw [if_neg (show ¬ Config.maxHolds ≤ (s.port p).holds.length from hl), State.seg_eq, if_neg (by simpa using hr)]
  simp only [okCode, decide_eq_true_iff]

end

/-- Settles O38. -/
theorem dataOutBegins : Obligations.DataOutBegins := by
  refine ⟨fun s p ws m ho => ?_, fun s p ws ho => ?_⟩
  · by_cases hr : AboveAll (par ws 0) ∨ parNat ws 1 < 1 ∨ 4 < parNat ws 1 ∨ (par32 ws 4).toNat = 0
    · exact ⟨_, exec_readWaveform_refused ho hr, by rw [if_pos hr]; exact onlyAnswered_respond s p _ _⟩
    · have h1 : 1 ≤ parNat ws 1 := by
        by_contra k
        exact hr (.inr (.inl (by omega)))
      have h4 : parNat ws 1 ≤ 4 := by
        by_contra k
        exact hr (.inr (.inr (.inl (by omega))))
      cases hn : named s (par ws 0) with
      | none => exact ⟨_, exec_readWaveform_none ho hr hn, by rw [if_neg hr]; exact onlyAnswered_respond s p _ _⟩
      | some i =>
        by_cases hc : (s.acq.seg i).state = .complete
        · refine ⟨_, exec_readWaveform_complete ho hr hn hc, ?_⟩
          rw [if_neg hr]
          dsimp only
          rw [if_neg (not_not.2 hc)]
          split
          · next hl =>
            rw [readWave_limit hl]
            exact onlyAnswered_respond s p _ _
          · next hl =>
            split
            · next hb =>
              rw [readWave_refused hl h1 h4 hb]
              exact onlyAnswered_respond s p _ _
            · next hb =>
              rw [readWave_taken hl h1 h4 hb]
              have given := answered_respondOut (s.addHold p i true) p
              rw [lost_addHold] at given
              obtain ⟨holds, kept, other⟩ := portKept_addHold (portsKept_respondOut (s.addHold p i true) p _ _ _)
              exact ⟨given _ _ _, by cases p <;> rfl, holds, kept, other, seg_addHold m p i true, by cases p <;> rfl⟩
        · refine ⟨_, exec_readWaveform_incomplete ho hr hn hc, ?_⟩
          rw [if_neg hr]
          dsimp only
          rw [if_pos hc]
          exact onlyAnswered_respond s p _ _
  · refine ⟨_, onRequest_offers ho _, ?_, by cases p <;> rfl, ?_, by cases p <;> rfl⟩
    · have given := answered_respondOut { s with comp := { s.comp with reads := s.comp.reads + 1 } } p .ok
        [800, 480, 5, 56320] .screen
      cases p <;> exact given
    · have kept := portsKept_respondOut { s with comp := { s.comp with reads := s.comp.reads + 1 } } p .ok
        [800, 480, 5, 56320] .screen
      cases p <;> exact kept

end Sys2Proof.Machine
end

section
/-!
SUPPORT. The end of a request with data, by an abort or by its last word (R103, R145, R169, R173).
-/

namespace Sys2Proof.Machine

/-- A screen read that ends flips buffers held for it where it was the last (R130, R145). -/
theorem screenReadEnded_endRead (c : Compositor) : ScreenReadEnded c c.endRead := by
  refine ⟨fun h => ?_, fun h => if_neg h⟩
  have hreads : c.reads - 1 = 0 := by omega
  refine (if_pos h).trans ?_
  simp only [Compositor.flip, hreads]
  cases c.refresh <;> rfl

/-- A port that gives the data of a segment holds it, and the segment is COMPLETE (R102, R103). -/
theorem held_of_waveform {s : State} {p : Port} (l : PortHoldLaw s p) {i n st k : Nat}
    (ho : (s.port p).out = some (.waveform i n st k)) :
    (s.acq.seg i).state = .complete ∧ 0 < (s.acq.seg i).portHolds p := by
  obtain ⟨-, count, complete, implicit, -⟩ := l
  rw [ho] at implicit
  have held : (⟨i, true⟩ : HoldEntry) ∈ (s.port p).holds :=
    (List.mem_filter.1 (show (⟨i, true⟩ : HoldEntry) ∈ (s.port p).holds.filter fun h => h.implicit by
      rw [implicit]
      exact List.mem_singleton.2 rfl)).1
  refine ⟨complete _ held, ?_⟩
  rw [count, List.countP_pos_iff]
  exact ⟨_, held, by simp⟩

/-- The hold of the data that a port gives is given back, and slot choice is retried. -/
theorem waveform_givenBack {s : State} (m : MemoryLaw s) {p : Port} (l : PortHoldLaw s p) (h : RenderQueueLaw s)
    {i n st k : Nat} (ho : (s.port p).out = some (.waveform i n st k)) :
    HoldsGivenBack s (s.dropHold p i true).resume p (fun j => if j = i then 1 else 0)
      ∧ Retried (s.dropHold p i true).resume (s.dropHold p i true).finishAct := by
  obtain ⟨hc, hp⟩ := held_of_waveform l ho
  have mu := memory_dropHold m p i true
  refine ⟨holdsGivenBack_lessHold m h hc hp mu ?_ ?_ ?_,
    retried_retryWait ((StoreKept.resume (shown := True) (calm := True) _).memory mu)⟩
  · rw [dropHold_eq]
    rfl
  · rw [dropHold_eq]
    rfl
  · have side : (s.lessHold p i).trig = s.trig ∧ (s.lessHold p i).fe = s.fe := by
      rw [(storeMoved_lessHold s p i).eq]
      exact ⟨rfl, rfl⟩
    rw [dropHold_eq]
    exact side

theorem requestGone_respond (s : State) (p : Port) (c : Code) (ws : List Word) : RequestGone ((s.respond p c ws).port p) := by
  unfold State.respond State.respondLost
  rw [State.port_eq]
  exact ⟨rfl, rfl, rfl, rfl, rfl, rfl, rfl, rfl, rfl, rfl, rfl, rfl⟩

/-! ## ABORT (R173) -/

theorem execAbort_none {s : State} {p : Port} (h : (s.port p).prst = true ∨ (s.port p).link = .idle
    ∨ ((s.port p).link = .responding ∧ (s.port p).out = none)) : exec (.abort p) s = .next s := by
  change Host.Outcome.next (if (s.port p).prst then s else s.abort p) = .next s
  refine congrArg _ ?_
  split
  · rfl
  · next hp =>
    unfold State.abort
    rcases h with h | h | ⟨h, ho⟩
    · exact absurd h hp
    · rw [h]
    · rw [h, ho]

theorem execAbort_ends {s : State} {p : Port} (h : ¬ ((s.port p).prst = true ∨ (s.port p).link = .idle
    ∨ ((s.port p).link = .responding ∧ (s.port p).out = none))) :
    exec (.abort p) s = .next ((s.giveBack p).respond p .aborted []) := by
  simp only [not_or, not_and] at h
  obtain ⟨hp, hi, hr⟩ := h
  refine congrArg _ ((if_neg hp).trans ?_)
  unfold State.abort
  split
  · next e => exact absurd e hi
  · next e ho => exact absurd ho (hr e)
  · rfl

theorem giveBack_waveform {s : State} {p : Port} {i n st k : Nat} (ho : (s.port p).out = some (.waveform i n st k)) :
    s.giveBack p = (s.dropHold p i true).finishAct := by
  unfold State.giveBack
  rw [ho]

theorem giveBack_screen {s : State} {p : Port} (ho : (s.port p).out = some .screen) :
    s.giveBack p = { s with comp := s.comp.endRead } := by
  unfold State.giveBack
  rw [ho]

theorem giveBack_list {s : State} {p : Port} {l : List Word} (ho : (s.port p).out = some (.list l)) : s.giveBack p = s := by
  unfold State.giveBack
  rw [ho]

theorem giveBack_none {s : State} {p : Port} (ho : (s.port p).out = none) : s.giveBack p = s := by
  unfold State.giveBack
  rw [ho]

/-- Settles O57. -/
theorem abortEnds : Obligations.AbortEnds := by
  intro s p m
  by_cases hn : (s.port p).prst = true ∨ (s.port p).link = .idle ∨ ((s.port p).link = .responding ∧ (s.port p).out = none)
  · exact ⟨s, execAbort_none hn, by rw [if_pos hn]⟩
  · refine ⟨_, execAbort_ends hn, ?_⟩
    rw [if_neg hn]
    refine ⟨requestGone_respond _ p _ _, ?_⟩
    cases ho : (s.port p).out with
    | none =>
      rw [giveBack_none ho]
      exact onlyAnswered_respond s p _ _
    | some d =>
      cases d with
      | list l =>
        rw [giveBack_list ho]
        exact onlyAnswered_respond s p _ _
      | screen =>
        rw [giveBack_screen ho]
        have answered := answered_respond { s with comp := s.comp.endRead } p .aborted []
        have kept := portsKept_respond { s with comp := s.comp.endRead } p .aborted []
        have port (q : Port) : State.port { s with comp := s.comp.endRead } q = s.port q := by cases q <;> rfl
        rw [port] at answered
        rw [PortsKept, port, port] at kept
        exact ⟨answered, kept, rfl, screenReadEnded_endRead _⟩
      | waveform i n st k =>
        rw [giveBack_waveform ho]
        have port := port_giveHold s p i true
        obtain ⟨blocks, setup, counter, mode⟩ := sides_giveHold s p i true
        obtain ⟨other, kept⟩ := portsKept_respond (s.dropHold p i true).finishAct p .aborted []
        have answered := answered_respond (s.dropHold p i true).finishAct p .aborted []
        rw [port, if_pos rfl] at answered kept
        rw [port, if_neg (otherPort_ne p)] at other
        refine ⟨answered, kept, other, blocks.respond p _ _, setup, counter, mode,
          fun hc hh => seg_giveHold_held m hc hh true, fun l h => ?_⟩
        obtain ⟨given, retried⟩ := waveform_givenBack m l h ho
        exact ⟨_, _, given, retried, restSame_respond _ p _ _⟩

/-! ## WORD_READ (R165, R168, R169) -/

/-- The last word of a burst that is the last ends the request (R169). -/
theorem readOut_last {s : State} {p : Port} {d : DataOut}
    (hw : ¬ (s.port p).word < min 512 (wordsOf d - 512 * (s.port p).burst))
    (hb : ¬ 512 * ((s.port p).burst + 1) < wordsOf d) :
    s.readOut p d = (s.giveBack p).updPort p fun q => { q.clearRequest.give (s.port p).crc with link := .idle } := by
  have total : d.total = wordsOf d := by cases d <;> rfl
  unfold State.readOut
  dsimp only
  rw [total]
  exact (if_neg hw).trans (if_neg hb)

theorem readOut_nextBurst {s : State} {p : Port} {d : DataOut}
    (hw : ¬ (s.port p).word < min 512 (wordsOf d - 512 * (s.port p).burst))
    (hb : 512 * ((s.port p).burst + 1) < wordsOf d) : s.readOut p d = s.updPort p (·.nextBurst) := by
  have total : d.total = wordsOf d := by cases d <;> rfl
  unfold State.readOut
  dsimp only
  rw [total]
  exact (if_neg hw).trans (if_pos hb)

/-- A data word that must wait for its access (log 20). -/
theorem readOut_waits {s : State} {p : Port} {d : DataOut}
    (hw : (s.port p).word < min 512 (wordsOf d - 512 * (s.port p).burst)) (hl : ∀ l, d ≠ .list l)
    (hf : (s.port p).fetched = 0) : s.readOut p d = s.updPort p fun ps => { ps with waiting := true } := by
  have total : d.total = wordsOf d := by cases d <;> rfl
  have shared : d.shared = true := by
    cases d with
    | list l => exact absurd rfl (hl l)
    | waveform => rfl
    | screen => rfl
  unfold State.readOut
  dsimp only
  rw [total]
  exact (if_pos hw).trans (if_pos ⟨shared, hf⟩)

/-- A data word that is given (R169). -/
theorem readOut_gives {s : State} {p : Port} {d : DataOut}
    (hw : (s.port p).word < min 512 (wordsOf d - 512 * (s.port p).burst))
    (hf : (s.port p).fetched ≠ 0 ∨ ∃ l, d = .list l) :
    s.readOut p d = s.updPort p fun ps => ps.readData (s.outWord d ps.given) := by
  have total : d.total = wordsOf d := by cases d <;> rfl
  have hserved : ¬ (d.shared = true ∧ (s.port p).fetched = 0) := by
    rintro ⟨h1, h2⟩
    rcases hf with hf | ⟨l, rfl⟩
    · exact hf h2
    · simp [DataOut.shared] at h1
  unfold State.readOut
  dsimp only
  rw [total]
  exact (if_pos hw).trans (if_neg hserved)

theorem outWord_given (s : State) (d : DataOut) (ps : PortState) :
    s.outWord d ps.given = dataWordAt s d (512 * ps.burst + ps.word) := by cases d <;> rfl

/-- A word read in each link state (R165). -/
theorem exec_wordRead (s : State) (p : Port) :
    ((s.port p).prst = true → exec (.wordRead p) s = .next (s.updPort p (·.give 0xFFFF)))
      ∧ ((s.port p).prst ≠ true → (s.port p).ack ≠ .none →
        exec (.wordRead p) s = .next (s.updPort p fun ps => { ps.give (ackWord ps.ack) with ack := .none }))
      ∧ ((s.port p).prst ≠ true → ¬ (s.port p).ack ≠ .none →
        (∀ r, (s.port p).link = .responding → (s.port p).response = some r →
          exec (.wordRead p) s = .next (s.updPort p (·.readResponse r)))
        ∧ (∀ d, (s.port p).link = .dataOut → (s.port p).out = some d → exec (.wordRead p) s = .next (s.readOut p d))
        ∧ (((s.port p).link = .responding → (s.port p).response = none) →
          ((s.port p).link = .dataOut → (s.port p).out = none) →
          exec (.wordRead p) s = .next (s.updPort p (·.give 0xFFFF)))) := by
  change (_ → execWordRead p s = _) ∧ (_ → _ → execWordRead p s = _) ∧ (_ → _ → (∀ _, _ → _ → execWordRead p s = _)
    ∧ (∀ _, _ → _ → execWordRead p s = _) ∧ (_ → _ → execWordRead p s = _))
  unfold execWordRead
  refine ⟨fun h => by rw [if_pos h], fun h ha => by rw [if_neg h, if_pos ha], fun h ha => ?_⟩
  rw [if_neg h, if_neg ha]
  refine ⟨fun r hl hr => by rw [hl, hr], fun d hl ho => by rw [hl, ho], fun hr ho => ?_⟩
  split
  · next hl hr' => rw [hr hl] at hr'; cases hr'
  · next hl ho' => rw [ho hl] at ho'; cases ho'
  · rfl

/-- A port's own part of a word read, and nothing else. -/
theorem updPort_read (s : State) (p : Port) (f : PortState → PortState) :
    (s.updPort p f).port (otherPort p) = s.port (otherPort p) ∧ RestSame s (s.updPort p f)
      ∧ (s.updPort p f).port p = f (s.port p) :=
  ⟨s.port_updPort_other p f, restSame_updPort s p f, s.port_updPort p f⟩

/-- Settles O59. -/
theorem wordReadGives : Obligations.WordReadGives := by
  intro s p m
  obtain ⟨reset, acked, live⟩ := exec_wordRead s p
  dsimp only
  by_cases hp : (s.port p).prst = true
  · obtain ⟨other, rest, self⟩ := updPort_read s p (·.give 0xFFFF)
    exact ⟨_, reset hp, other, by rw [if_pos hp]; exact ⟨self, rest⟩⟩
  by_cases ha : (s.port p).ack ≠ .none
  · obtain ⟨other, rest, self⟩ := updPort_read s p fun ps => { ps.give (ackWord ps.ack) with ack := .none }
    refine ⟨_, acked hp ha, other, ?_⟩
    rw [if_neg hp, if_pos ha]
    refine ⟨self.trans ?_, rest⟩
    cases (s.port p).ack <;> rfl
  obtain ⟨responding, giving, nothing⟩ := live hp ha
  by_cases hr : ∃ r, (s.port p).link = .responding ∧ (s.port p).response = some r
  · obtain ⟨r, hl, hr⟩ := hr
    obtain ⟨other, rest, self⟩ := updPort_read s p (·.readResponse r)
    refine ⟨_, responding r hl hr, other, ?_⟩
    rw [if_neg hp, if_neg ha, hl, hr]
    dsimp only
    rw [← hl]
    refine ⟨rest, self.trans ?_⟩
    unfold PortState.readResponse
    dsimp only
    split
    · rfl
    · split
      · next d ho =>
        rw [if_neg (by rw [ho]; simp)]
        rfl
      · next ho =>
        rw [if_pos ho]
        rfl
  by_cases hd : ∃ d, (s.port p).link = .dataOut ∧ (s.port p).out = some d
  · obtain ⟨d, hl, hd⟩ := hd
    have he := giving d hl hd
    by_cases hw : (s.port p).word < min 512 (wordsOf d - 512 * (s.port p).burst)
    · by_cases hf : (s.port p).fetched ≠ 0 ∨ ∃ l, d = .list l
      · rw [readOut_gives hw hf] at he
        obtain ⟨other, rest, self⟩ := updPort_read s p fun ps => ps.readData (s.outWord d ps.given)
        refine ⟨_, he, other, ?_⟩
        rw [if_neg hp, if_neg ha, hl, hd]
        dsimp only
        rw [← hl]
        rw [if_pos hw]
        refine ⟨fun hn h0 => absurd hf ?_, fun _ => ⟨rest, self.trans ?_⟩⟩
        · rintro (k | ⟨l, k⟩)
          · exact k h0
          · exact hn l k
        · rw [outWord_given, ← hd]
          rfl
      · rw [not_or, not_not, not_exists] at hf
        rw [readOut_waits hw hf.2 hf.1] at he
        obtain ⟨other, rest, self⟩ := updPort_read s p fun ps => { ps with waiting := true }
        refine ⟨_, he, other, ?_⟩
        rw [if_neg hp, if_neg ha, hl, hd]
        dsimp only
        rw [← hl]
        rw [if_pos hw]
        exact ⟨fun _ _ => ⟨rest, by rw [← hd]; exact self⟩, fun k => absurd hf.1 (k.resolve_right (not_exists.2 hf.2))⟩
    · by_cases hb : 512 * ((s.port p).burst + 1) < wordsOf d
      · rw [readOut_nextBurst hw hb] at he
        obtain ⟨other, rest, self⟩ := updPort_read s p (·.nextBurst)
        refine ⟨_, he, other, ?_⟩
        rw [if_neg hp, if_neg ha, hl, hd]
        dsimp only
        rw [← hl]
        rw [if_neg hw, if_pos hb, ← hd]
        exact ⟨rest, self⟩
      · rw [readOut_last hw hb] at he
        refine ⟨_, he, ?_⟩
        rw [if_neg hp, if_neg ha, hl, hd]
        dsimp only
        rw [← hl]
        rw [if_neg hw, if_neg hb]
        cases d with
        | list l =>
          rw [giveBack_list hd]
          obtain ⟨other, rest, self⟩ := updPort_read s p fun q => { q.clearRequest.give (s.port p).crc with link := .idle }
          exact ⟨other, rest, self⟩
        | screen =>
          rw [giveBack_screen hd]
          obtain ⟨other, -, self⟩ := updPort_read { s with comp := s.comp.endRead } p fun q =>
            { q.clearRequest.give (s.port p).crc with link := .idle }
          have port (q : Port) : State.port { s with comp := s.comp.endRead } q = s.port q := by cases q <;> rfl
          rw [port] at other self
          exact ⟨other, self, rfl, screenReadEnded_endRead _⟩
        | waveform i n st k =>
          rw [giveBack_waveform hd]
          obtain ⟨other, rest, self⟩ := updPort_read (s.dropHold p i true).finishAct p fun q =>
            { q.clearRequest.give (s.port p).crc with link := .idle }
          have port := port_giveHold s p i true
          rw [port, if_pos rfl] at self
          rw [port, if_neg (otherPort_ne p)] at other
          obtain ⟨blocks, setup, counter, mode⟩ := sides_giveHold s p i true
          refine ⟨other, self, ⟨blocks.pending, blocks.straps, blocks.baseTick, blocks.holder, blocks.localDisabled,
            blocks.panel, blocks.comp, blocks.store, blocks.memLast, blocks.fbLast⟩, setup, counter, mode,
            fun hc hh => seg_giveHold_held m hc hh true, fun l h => ?_⟩
          obtain ⟨given, retried⟩ := waveform_givenBack m l h hd
          exact ⟨_, _, given, retried, rest⟩
  · have hr' (hl : (s.port p).link = .responding) : (s.port p).response = none := by
      cases h : (s.port p).response with
      | none => rfl
      | some r => exact absurd ⟨r, hl, h⟩ hr
    have hd' (hl : (s.port p).link = .dataOut) : (s.port p).out = none := by
      cases h : (s.port p).out with
      | none => rfl
      | some d => exact absurd ⟨d, hl, h⟩ hd
    obtain ⟨other, rest, self⟩ := updPort_read s p (·.give 0xFFFF)
    refine ⟨_, nothing hr' hd', other, ?_⟩
    rw [if_neg hp, if_neg ha]
    split
    · next hl h => exact absurd (hr' hl) (by rw [h]; simp)
    · next hl h => exact absurd (hd' hl) (by rw [h]; simp)
    · exact ⟨self, rest⟩

end Sys2Proof.Machine
end

section
/-!
SUPPORT. SHOW_SEGMENT and CLEAR_DISPLAY (R105, R125): what the raster clear and the hand-off draw and leave, and which
segments still wait.
-/

namespace Sys2Proof.Machine

/-! ## What is drawn -/

theorem drawn_abandonRender (s : State) : s.abandonRender.rend.drawn = s.rend.drawn := by
  unfold State.abandonRender
  split
  · exact drawn_clearPending _ _
  · rfl

theorem drawn_clearRasters (s : State) : s.clearRasters.rend.drawn = ([], s.rend.decayDue) := drawn_abandonRender _

theorem drawn_handOff (s : State) (i : Nat) : (s.handOff i).rend.drawn = s.rend.drawn := by
  have room : s.makeRoom.rend.drawn = s.rend.drawn := by
    unfold State.makeRoom
    split
    · rfl
    · split
      · exact drawn_clearPending _ _
      · rfl
  unfold State.handOff
  split
  · rfl
  · exact room

theorem render_handOff {s : State} (h : s.rend.render = none) (i : Nat) : (s.handOff i).rend.render = none := by
  have room : s.makeRoom.rend.render = none := by
    unfold State.makeRoom
    split
    · exact h
    · split
      · next k q _ => exact render_clearPending (s := { s with rend := { s.rend with queue := q } }) h k
      · exact h
  unfold State.handOff
  split
  · exact h
  · exact room

/-- A decay leaves cleared rasters clear (R124). -/
theorem decayRasters_nil (mode dec : Int) : decayRasters mode dec [] = [] := by
  unfold decayRasters
  split
  · rfl
  · split <;> rfl

/-- An idle renderer with cleared rasters goes on with none but cleared rasters, and no decay due. -/
theorem cleared_resume {s : State} (hr : s.rend.render = none) (hc : s.rend.rasters = []) :
    s.resume.rend.drawn = ([], false) := by
  rw [drawn_resume hr]
  refine Prod.ext ?_ rfl
  change (if s.rend.decayDue = true then decayRasters _ _ s.rend.rasters else s.rend.rasters) = []
  rw [hc]
  split
  · exact decayRasters_nil _ _
  · rfl

/-- What `drawn` says of cleared rasters. -/
theorem cleared_of_drawn {r : Renderer} (h : r.drawn = ([], false)) : (∀ a, Cells.get 0 r.rasters a = 0) ∧ r.decayDue = false := by
  obtain ⟨h1, h2⟩ := Prod.mk.inj h
  exact ⟨fun a => by rw [h1]; rfl, h2⟩

/-! ## Raster clears -/

theorem memory_clearRasters {s : State} (m : MemoryLaw s) : MemoryLaw s.clearRasters :=
  (StoreKept.clearRasters (shown := True) (calm := True) s).memory m

theorem QueueLaws.clearRasters {s : State} (m : MemoryLaw s) (h : QueueLaws s) : QueueLaws s.clearRasters :=
  QueueLaws.abandonRender (s := { s with rend := { s.rend with rasters := [] } }) ⟨m.1, m.2.1, rfl, m.2.2.2⟩
    (h.alike (fun _ => rfl) rfl rfl)

/-- What is abandoned leaves the queue as it is, and touches no record but that of the render in flight (R115). -/
theorem queue_abandonRender {s : State} (m : MemoryLaw s) (h : QueueLaws s) : s.abandonRender.rend.queue = s.rend.queue
    ∧ ∀ j, (∀ r, s.rend.render = some r → r.seg ≠ j) → s.abandonRender.acq.seg j = s.acq.seg j := by
  unfold State.abandonRender
  split
  · next r hr =>
    refine ⟨?_, fun j hj => seg_clearPending_ne (s := { s with rend := { s.rend with render := none } }) m
      (Ne.symm (hj r hr))⟩
    unfold State.clearPending State.freeIfUnkept
    split
    · exact List.filter_eq_self.2 fun j hj => by
        rw [bne_iff_ne]
        exact fun e => h.apart r hr (e ▸ hj)
    · rfl
  · exact ⟨rfl, fun _ _ => rfl⟩

/-- The segment of a render that is abandoned is freed where nothing else keeps it (R87, R115). -/
theorem seg_abandonRender_render {s : State} (m : MemoryLaw s) {r : Render} (hr : s.rend.render = some r)
    (hc : (s.acq.seg r.seg).state = .complete) :
    (KeptStill s r.seg → s.abandonRender.acq.seg r.seg = { s.acq.seg r.seg with pending := false })
      ∧ (¬ KeptStill s r.seg → s.abandonRender.acq.seg r.seg = Seg.blank) := by
  unfold State.abandonRender
  rw [hr]
  exact seg_clearPending_self (s := { s with rend := { s.rend with render := none } }) m hc

/-! ## CLEAR_DISPLAY (R125) -/

/-- The raster clear, with the renderer gone on. -/
theorem displayCleared {s : State} (m : MemoryLaw s) (h : RenderQueueLaw s) :
    DisplayCleared s s.clearRasters.resume := by
  obtain ⟨q, -⟩ := (renderQueueLaw_iff s).1 h
  have mb := memory_clearRasters m
  have qb := q.clearRasters m
  have mr : MemoryLaw { s with rend := { s.rend with rasters := [] } } := ⟨m.1, m.2.1, rfl, m.2.2.2⟩
  have qr : QueueLaws { s with rend := { s.rend with rasters := [] } } := q.alike (fun _ => rfl) rfl rfl
  obtain ⟨hqueue, hothers⟩ : s.clearRasters.rend.queue = s.rend.queue
    ∧ ∀ j, (∀ r, s.rend.render = some r → r.seg ≠ j) → s.clearRasters.acq.seg j = s.acq.seg j := queue_abandonRender mr qr
  obtain ⟨skipped, t⟩ := taken_resume mb qb (render_clearRasters s)
  have moved := (StoreMoved.clearRasters s).trans t.moved
  have waiting (j : Nat) (hj : j ∈ s.clearRasters.rend.queue) : s.clearRasters.acq.seg j = s.acq.seg j :=
    hothers j fun r hr e => q.apart r hr (by rw [e, ← hqueue]; exact hj)
  have goesOn := t.renderTaken qb.nodup (StoreMoved.clearRasters s).vals waiting
  rw [hqueue] at goesOn
  refine ⟨?_, moved.acq, cleared_of_drawn (cleared_resume (render_clearRasters s) (Prod.mk.inj (drawn_clearRasters s)).1),
    goesOn, fun r hr => ?_, fun i hi hk => ?_, fun j hj hd => ?_⟩
  · rw [moved.eq]
  · have hv : s.clearRasters.resume.acq.seg r.seg = s.clearRasters.acq.seg r.seg :=
      t.drawn (.inl (by rw [hqueue]; exact q.apart r hr))
    rw [hv]
    exact seg_abandonRender_render mr hr (q.used r.seg (.inr ⟨r, hr, rfl⟩)).1
  · have still : KeptStill s i := hk.symm.imp id fun k => ⟨k, .inl hi⟩
    have first := staysStill_clearRasters m still
    obtain ⟨-, ⟨b, hb⟩, -⟩ := first.trans (staysStill_resume mb first.1)
    rw [hb]
  · rw [t.drawn, hothers j hj]
    rw [hqueue, hothers j hj, (StoreMoved.clearRasters s).segChannels rfl]
    exact hd

/-! ## SHOW_SEGMENT (R105) -/

/-- A segment that is render-pending waits, or is in render. -/
def FlagQueued (s : State) (j : Nat) : Prop := (s.acq.seg j).pending = true → Queued s j

theorem flagQueued_pop {s : State} (m : MemoryLaw s) {j k : Nat} {q : List Nat} (hq : s.rend.queue = k :: q)
    (h : FlagQueued s j) : FlagQueued (State.clearPending { s with rend := { s.rend with queue := q } } k) j := by
  intro hp
  by_cases hjk : j = k
  · subst hjk
    have faded := allFaded_freeIfUnkept (memory_setSeg (s := { s with rend := { s.rend with queue := q } }) m j
      { s.seg j with pending := false }) j j
    rw [seg_setSeg (s := { s with rend := { s.rend with queue := q } }) m, if_pos rfl] at faded
    have hp' : ((State.clearPending { s with rend := { s.rend with queue := q } } j).acq.seg j).pending = false := by
      rcases faded with e | e | e <;> exact congrArg Seg.pending e
    rw [hp'] at hp
    cases hp
  · rw [seg_clearPending_ne (s := { s with rend := { s.rend with queue := q } }) m hjk] at hp
    have before : Queued { s with rend := { s.rend with queue := q } } j := by
      refine (h hp).imp_left fun hm => ?_
      rw [hq] at hm
      exact (List.mem_cons.1 hm).resolve_left hjk
    unfold State.clearPending State.freeIfUnkept
    split
    · exact (queued_freeSeg _ k j).2 ⟨before, hjk⟩
    · exact before

theorem flagQueued_handOff {s : State} (m : MemoryLaw s) {i j : Nat} (hij : j ≠ i) (h : FlagQueued s j) :
    FlagQueued (s.handOff i) j := by
  have room : FlagQueued s.makeRoom j := by
    unfold State.makeRoom
    split
    · exact h
    · split
      · next k q hq => exact flagQueued_pop m hq h
      · exact h
  have mr : MemoryLaw s.makeRoom := (RecordsKept.makeRoom (shown := True) s).memory m
  unfold State.handOff
  split
  · exact h
  · intro hp
    have hseg : (s.makeRoom.enqueue i).acq.seg j = s.makeRoom.acq.seg j :=
      (seg_setSeg (s := { s.makeRoom with rend := { s.makeRoom.rend with queue := s.makeRoom.rend.queue ++ [i] } })
        mr i _ j).trans (if_neg hij)
    rw [hseg] at hp
    exact (room hp).imp_left (List.mem_append_left _)

theorem flagQueued_takeRender {s : State} (m : MemoryLaw s) {j : Nat} (hr : s.rend.render = none) (h : FlagQueued s j)
    (n : Nat) : FlagQueued (s.takeRender n) j := by
  induction n generalizing s with
  | zero => exact h
  | succ n ih =>
    unfold State.takeRender
    split
    · exact h
    · next k q hq =>
      dsimp only
      split
      · exact ih (memory_clearPending (s := { s with rend := { s.rend with queue := q } }) m k)
          (render_clearPending (s := { s with rend := { s.rend with queue := q } }) hr k) (flagQueued_pop m hq h)
      · intro hp
        rcases h hp with hm | ⟨r, hr', -⟩
        · rw [hq] at hm
          rcases List.mem_cons.1 hm with rfl | hm
          · exact .inr ⟨_, rfl, rfl⟩
          · exact .inl hm
        · rw [hr] at hr'
          cases hr'

/-- A segment that is handed off waits. -/
theorem mem_handOff (s : State) (i : Nat) : i ∈ (s.handOff i).rend.queue := by
  unfold State.handOff
  split
  · next h => exact List.contains_iff_mem.1 h
  · exact List.mem_append_right _ (List.mem_singleton.2 rfl)

theorem memory_handOff {s : State} (m : MemoryLaw s) (i : Nat) : MemoryLaw (s.handOff i) :=
  (RecordsKept.handOff (shown := False) s i False.elim).memory m

theorem memory_makeCurrent {s : State} (m : MemoryLaw s) {i : Nat} (hi : (s.acq.seg i).state = .complete) :
    MemoryLaw (s.makeCurrent i) := (RecordsKept.makeCurrent (shown := True) s fun _ => hi).memory m

/-- A hand-off leaves another record as it was, or takes its flag away or frees it. -/
theorem faded_handOff {s : State} (m : MemoryLaw s) {i j : Nat} (hij : j ≠ i) :
    Faded (s.acq.seg j) ((s.handOff i).acq.seg j) := by
  unfold State.handOff
  split
  · exact .refl _
  · have mr : MemoryLaw s.makeRoom := (RecordsKept.makeRoom (shown := True) s).memory m
    have hseg : (s.makeRoom.enqueue i).acq.seg j = s.makeRoom.acq.seg j :=
      (seg_setSeg (s := { s.makeRoom with rend := { s.makeRoom.rend with queue := s.makeRoom.rend.queue ++ [i] } })
        mr i _ j).trans (if_neg hij)
    rw [hseg]
    exact allFaded_makeRoom m j

theorem keptBut_handOff {d : Nat → Prop} {s : State} (m : MemoryLaw s) (h : KeptBut d s) {i : Nat} (hi : d i) :
    KeptBut d (s.handOff i) := by
  have mr : MemoryLaw s.makeRoom := (RecordsKept.makeRoom (shown := True) s).memory m
  have room : KeptBut d s.makeRoom := by
    unfold State.makeRoom
    split
    · exact h
    · split
      · next k q _ => exact keptBut_clearPending (s := { s with rend := { s.rend with queue := q } }) m h k
      · exact h
  unfold State.handOff
  split
  · exact h
  · exact (keptBut_setSeg (s := { s.makeRoom with rend := { s.makeRoom.rend with queue := s.makeRoom.rend.queue ++ [i] } })
      mr room i _).mono fun j k => k.elim id fun e => e ▸ hi

/-- A stored segment is shown, up to the end of the act: current, rasters cleared, handed off (R105). -/
def State.shown (s : State) (i : Nat) : State := ((s.makeCurrent i).clearRasters).handOff i

theorem storeMoved_shown (s : State) (i : Nat) : StoreMoved s (s.shown i) :=
  ((StoreMoved.makeCurrent s i).trans (.clearRasters _)).trans (.handOff _ i)

theorem render_shown (s : State) (i : Nat) : (s.shown i).rend.render = none := render_handOff (render_clearRasters _) i

/-- Whatever follows, the rasters are clear, and no decay is due (R105, R118). -/
theorem cleared_showSeg (s : State) (i : Nat) :
    (∀ a, Cells.get 0 (s.showSeg i).rend.rasters a = 0) ∧ (s.showSeg i).rend.decayDue = false := by
  refine cleared_of_drawn ((drawn_retryWait _).trans (cleared_resume (render_shown s i) ?_))
  exact congrArg Prod.fst ((drawn_handOff _ i).trans (drawn_clearRasters _))

theorem actMoved_showSeg (s : State) (i : Nat) : ActMoved s (s.showSeg i) := (storeMoved_shown s i).act.trans (.finishAct _)

section
variable {s : State} {i : Nat} (m : MemoryLaw s) (hi : (s.acq.seg i).state = .complete)
include m hi

theorem memory_shown : MemoryLaw (s.shown i) := memory_handOff (memory_clearRasters (memory_makeCurrent m hi)) i

/-- What keeps another segment besides its render, once it is not current, keeps it all through a SHOW_SEGMENT. -/
theorem staysStill_shown {j : Nat} (h : KeptStill (s.makeCurrent i) j) :
    StaysStill (s.makeCurrent i) (s.shown i).resume j := by
  have ma := memory_makeCurrent m hi
  have b := staysStill_clearRasters ma h
  have c := staysStill_handOff (memory_clearRasters ma) b.1 i
  exact (b.trans c).trans (staysStill_resume (memory_shown m hi) c.1)

/-- The segment shown, below K, is current and COMPLETE (R105). -/
theorem seg_shown (hk : i < s.slots) :
    ∃ b, (s.shown i).resume.acq.seg i = { s.acq.seg i with current := true, pending := b } := by
  have hseg := seg_makeCurrent_self m i
  have still : KeptStill (s.makeCurrent i) i :=
    .inr ⟨by rw [(StoreMoved.makeCurrent s i).slots]; exact hk, .inl (by rw [hseg])⟩
  obtain ⟨-, ⟨b, hb⟩, -⟩ := staysStill_shown m hi still
  exact ⟨b, by rw [hb, hseg]⟩

/-- The segment shown waits, or is in render where it is first (R105, R112). -/
theorem queued_shown (q : QueueLaws s) (hk : i < s.slots) (hd : s.acq.segChannels (s.acq.seg i) ≠ []) :
    i ∈ (s.shown i).resume.rend.queue ∨ ∃ r, (s.shown i).resume.rend.render = some r ∧ RenderFormed s i r := by
  have ma := memory_makeCurrent m hi
  have mb := memory_clearRasters ma
  have hseg := seg_makeCurrent_self m i
  have still : KeptStill (s.makeCurrent i) i :=
    .inr ⟨by rw [(StoreMoved.makeCurrent s i).slots]; exact hk, .inl (by rw [hseg])⟩
  have b := staysStill_clearRasters ma still
  obtain ⟨-, ⟨f, hb⟩, -⟩ := id b
  obtain ⟨-, ⟨g, hc⟩, -⟩ := b.trans (staysStill_handOff mb b.1 i)
  rw [hseg] at hb hc
  have qc : QueueLaws (s.shown i) := ((q.makeCurrent m i).clearRasters ma).handOff mb (by rw [hb]; exact hi)
    (by simp [render_clearRasters])
  obtain ⟨skipped, t⟩ := taken_resume (memory_shown m hi) qc (render_shown s i)
  have moved := storeMoved_shown s i
  have hsnap : ((s.shown i).acq.seg i).snap = (s.acq.seg i).snap := by
    rw [show (s.shown i).acq.seg i = _ from hc]
  have hmem : i ∈ (s.shown i).rend.queue := mem_handOff _ i
  rw [t.split, List.append_assoc] at hmem
  rcases List.mem_append.1 hmem with k | k
  · exact absurd (t.empty i k) (by rw [moved.segChannels hsnap]; exact hd)
  · rcases List.mem_append.1 k with k | k
    · obtain ⟨r, hr, rfl⟩ : ∃ r, (s.shown i).resume.rend.render = some r ∧ r.seg = i := by simpa using k
      exact .inr ⟨r, hr, (moved.formed hsnap).1 (t.formed r hr).2⟩
    · exact .inl k

end

/-- The segment j that was current when i is shown: it is current no longer, and it is freed where nothing else keeps it
(R87, R105). -/
theorem seg_shown_former {s : State} {i j : Nat} (m : MemoryLaw s) (hi : (s.acq.seg i).state = .complete)
    (l : AcqLaw s) (q : QueueLaws s) (hji : j ≠ i) (hj : (s.acq.seg j).current = true) :
    let kept : Prop := 0 < (s.acq.seg j).holdsA + (s.acq.seg j).holdsB ∨ (j < s.slots ∧ j ∈ s.acq.seqList)
    let t := (s.shown i).resume
    (t.acq.seg j).current = false ∧ (kept → (t.acq.seg j).state = .complete)
      ∧ (¬ kept → (s.acq.seg j).pending = false → t.acq.seg j = Seg.blank)
      ∧ (¬ kept → j ∉ t.rend.queue → (∀ r, t.rend.render = some r → r.seg ≠ j) → t.acq.seg j = Seg.blank) := by
  intro kept t
  obtain ⟨-, -, -, one, complete⟩ := l
  have hcj := complete j hj
  have hcur : s.acq.currentIdx = some j := by
    cases h : s.acq.currentIdx with
    | none => rw [Acq.not_current_of_currentIdx h j] at hj; cases hj
    | some k => rw [one k j (Acq.current_of_currentIdx m.1 h) hj]
  -- the state before the former current segment is looked at again
  have passed : ∃ u : State, s.makeCurrent i = u.freeIfUnkept j ∧ MemoryLaw u ∧ StoreMoved s u
      ∧ u.acq.seg j = { s.acq.seg j with current := false } ∧ u.acq.seqList = s.acq.seqList := by
    have m1 := memory_setSeg m j { s.seg j with current := false }
    refine ⟨_, ?_, memory_setSeg m1 i { State.seg (s.setSeg j { s.seg j with current := false }) i with current := true },
      (StoreMoved.setSeg s _ _).trans (.setSeg _ _ _), ?_, rfl⟩
    · unfold State.makeCurrent
      rw [hcur]
      exact if_neg hji
    · rw [seg_setSeg m1, if_neg hji, seg_setSeg m, if_pos rfl, State.seg_eq]
  obtain ⟨u, hu, mu, su, hseg, hlist⟩ := passed
  have ma := memory_makeCurrent m hi
  have mb := memory_clearRasters ma
  have mc := memory_shown m hi
  have faded : Faded { s.acq.seg j with current := false } (t.acq.seg j) := by
    have h := allFaded_freeIfUnkept mu j j
    rw [hseg, ← hu] at h
    exact ((h.trans (allFaded_clearRasters ma j)).trans (faded_handOff mb hji)).trans (allFaded_resume mc j)
  have complete_or : t.acq.seg j = Seg.blank ∨ (t.acq.seg j).state = .complete := by
    rcases faded with e | e | e
    · exact .inr (by rw [e]; exact hcj)
    · exact .inr (by rw [e]; exact hcj)
    · exact .inl e
  -- what is left of what keeps it
  have looked : KeptBut (· ≠ j) t := by
    have ha : KeptBut (· ≠ j) (s.makeCurrent i) := by
      rw [hu]
      exact (keptBut_freeIfUnkept (d := fun _ => True) mu (fun _ k => absurd trivial k) j).mono fun k h => h.2
    have hc : KeptBut (· ≠ j) (s.shown i) := keptBut_handOff mb (KeptBut.abandonRender
      (s := { s.makeCurrent i with rend := { (s.makeCurrent i).rend with rasters := [] } })
      ⟨ma.1, ma.2.1, rfl, ma.2.2.2⟩ ha) (Ne.symm hji)
    rw [show t = _ from resume_of_idle (render_shown s i)]
    exact KeptBut.takeRender (s := (s.shown i).consumeDecay) (memory_consumeDecay mc) hc _
  have moved : StoreMoved s t := (storeMoved_shown s i).trans (.resume _)
  have queued : FlagQueued t j := by
    have qb : QueueLaws (s.makeCurrent i).clearRasters := (q.makeCurrent m i).clearRasters ma
    have hc : FlagQueued (s.shown i) j := flagQueued_handOff mb hji fun hp => (qb.flagged j hp).resolve_right id
    rw [show t = _ from resume_of_idle (render_shown s i)]
    exact flagQueued_takeRender (s := (s.shown i).consumeDecay) (memory_consumeDecay mc) (render_shown s i) hc _
  have freed (hk : ¬ kept) (hp : (t.acq.seg j).pending = false) : t.acq.seg j = Seg.blank := by
    refine complete_or.resolve_right fun hc => hk ?_
    have holds : (t.acq.seg j).holdsA + (t.acq.seg j).holdsB = (s.acq.seg j).holdsA + (s.acq.seg j).holdsB := by
      rcases faded with e | e | e
      · rw [e]
      · rw [e]
      · rw [e] at hc; cases hc
    rcases looked j (by simp) hc with k | ⟨hlt, k | k | k⟩
    · exact .inl (holds ▸ k)
    · rw [faded.current rfl] at k; cases k
    · rw [hp] at k; cases k
    · exact .inr ⟨moved.slots ▸ hlt, moved.seqList.subset k⟩
  refine ⟨faded.current rfl, fun hk => ?_, fun hk hp => freed hk ?_, fun hk hq hr => freed hk ?_⟩
  · have still : KeptStill u j := by
      rw [KeptStill, hseg, su.slots, hlist]
      exact hk.imp id fun k => ⟨k.1, .inr k.2⟩
    obtain ⟨first, ⟨b, hb⟩, -⟩ := staysStill_freeIfUnkept mu still j
    rw [← hu] at first hb
    obtain ⟨-, ⟨c, hc⟩, -⟩ := staysStill_shown m hi first
    change ((s.shown i).resume.acq.seg j).state = _
    rw [hc, hb, hseg]
    exact hcj
  · rcases faded with e | e | e <;> rw [e]
    · exact hp
    · rfl
  · rw [← Bool.not_eq_true]
    exact fun hp => (queued hp).elim hq fun ⟨r, h, e⟩ => hr r h e

/-! ## The statement -/

section
variable {s : State} {p : Port} {ws : List Word} (h : Offers s p kindShowSegment ws)
include h

/-- SHOW_SEGMENT of what is no index (log 19). -/
theorem exec_showSegment_above (hi : 1999 < parNat ws 0) :
    exec (.showSegment p) s = .next (s.respond p .badValue []) := by
  refine (onRequest_offers h _).trans (congrArg _ ?_)
  by_cases hc : par ws 0 = 0xFFFF
  · rw [hc]
    rfl
  · rw [segRef_of_ne hc, if_pos hi]

/-- SHOW_SEGMENT of an index. -/
theorem exec_showSegment_index (hi : ¬ 1999 < parNat ws 0) : exec (.showSegment p) s
    = .next (if s.lockedAgainst (.port p) then s.respond p .locked []
      else if s.acq.mode ≠ .stop then s.respond p .notStopped []
      else if (s.seg (parNat ws 0)).state ≠ .complete then s.respond p .noSegment []
      else (s.showSeg (parNat ws 0)).respond p .ok [word (parNat ws 0)]) := by
  refine (onRequest_offers h _).trans (congrArg _ ?_)
  have hc : par ws 0 ≠ 0xFFFF := fun e => hi (by rw [parNat, e]; decide)
  rw [segRef_of_ne hc, if_neg hi]

end

/-- An answer at the end of an act that posts nothing. -/
theorem answered_act {s t : State} (h : ActMoved s t) (p : Port) (c : Code) (ws : List Word) :
    Answered (t.respond p c ws) p (s.port p).lost c ws ∧ PortsKept s (t.respond p c ws) p
      ∧ BlocksSame s (t.respond p c ws) := by
  have kept := portsKept_respond t p c ws
  rw [PortsKept, h.port, h.port] at kept
  exact ⟨h.port p ▸ answered_respond t p c ws, kept, h.blocks.respond p c ws⟩

/-- Settles O39. -/
theorem showSegmentAndClearDisplay : Obligations.ShowSegmentAndClearDisplay := by
  refine ⟨fun s p ws m ho => ?_, fun s p ws ho => ?_⟩
  · dsimp only
    by_cases hi : 1999 < parNat ws 0
    · exact ⟨_, exec_showSegment_above ho hi, by rw [if_pos hi]; exact onlyAnswered_respond s p _ _⟩
    have he := exec_showSegment_index ho hi
    by_cases hl : s.setup.holder = some (otherPort p)
    · rw [if_pos ((lockedAgainst_port s p).2 hl)] at he
      exact ⟨_, he, by rw [if_neg hi, if_pos hl]; exact onlyAnswered_respond s p _ _⟩
    rw [if_neg (mt (lockedAgainst_port s p).1 hl)] at he
    by_cases hm : s.acq.mode ≠ .stop
    · rw [if_pos hm] at he
      exact ⟨_, he, by rw [if_neg hi, if_neg hl, if_pos hm]; exact onlyAnswered_respond s p _ _⟩
    rw [if_neg hm] at he
    by_cases hc : (s.acq.seg (parNat ws 0)).state ≠ .complete
    · rw [if_pos (show (s.seg (parNat ws 0)).state ≠ .complete from hc)] at he
      exact ⟨_, he, by rw [if_neg hi, if_neg hl, if_neg hm, if_pos hc]; exact onlyAnswered_respond s p _ _⟩
    rw [if_neg (show ¬ (s.seg (parNat ws 0)).state ≠ .complete from hc)] at he
    refine ⟨_, he, ?_⟩
    rw [if_neg hi, if_neg hl, if_neg hm, if_neg hc]
    rw [not_not] at hc
    have act := actMoved_showSeg s (parNat ws 0)
    obtain ⟨answered, kept, blocks⟩ := answered_act act p .ok [word (parNat ws 0)]
    obtain ⟨clear, due⟩ := cleared_showSeg s (parNat ws 0)
    have moved := (storeMoved_shown s (parNat ws 0)).trans (.resume _)
    have ends (hs : s.acq.state = .stopped) : s.showSeg (parNat ws 0) = (s.shown (parNat ws 0)).resume :=
      finishAct_of_ne (by
        change (s.shown (parNat ws 0)).acq.state ≠ .waitSegment
        rw [(storeMoved_shown s _).state, hs]
        simp)
    refine ⟨answered, kept, blocks, act.setup, act.fe, due, act.counters.2.1, clear, fun hs hk => ?_, fun hs l hq => ?_⟩
    · obtain ⟨b, hb⟩ := seg_shown m hc hk
      rw [ends hs]
      refine ⟨?_, ?_, moved.state.trans hs, moved.trig⟩
      · exact (congrArg Seg.current hb)
      · exact (congrArg Seg.state hb).trans hc
    · rw [ends hs]
      have q := ((renderQueueLaw_iff s).1 hq).1
      exact ⟨fun hk hd => queued_shown m hc q hk hd, fun j hj hcur => seg_shown_former m hc l q hj hcur⟩
  · have he : exec (.clearDisplay p) s = .next (if s.lockedAgainst (.port p) then s.respond p .locked []
        else s.clearDisplay.respond p .ok []) := onRequest_offers ho _
    by_cases hl : s.setup.holder = some (otherPort p)
    · rw [if_pos ((lockedAgainst_port s p).2 hl)] at he
      exact ⟨_, he, by rw [if_pos hl]; exact onlyAnswered_respond s p _ _⟩
    rw [if_neg (mt (lockedAgainst_port s p).1 hl)] at he
    refine ⟨_, he, ?_⟩
    rw [if_neg hl]
    have act : ActMoved s s.clearDisplay := (StoreMoved.clearRasters s).act.trans (.finishAct _)
    obtain ⟨answered, kept, blocks⟩ := answered_act act p .ok []
    obtain ⟨clear, due⟩ := cleared_of_drawn ((drawn_retryWait s.clearRasters.resume).trans
      (cleared_resume (render_clearRasters s) (congrArg Prod.fst (drawn_clearRasters s))))
    obtain ⟨mode, counter, samples, -⟩ := act.counters
    have moved := (StoreMoved.clearRasters s).trans (.resume _)
    refine ⟨answered, kept, blocks, act.setup, clear, due, counter, mode, samples, act.fe, fun hw => ?_, fun m h => ?_⟩
    · have ends : s.clearDisplay = s.clearRasters.resume :=
        finishAct_of_ne (by rw [(StoreMoved.clearRasters s).state]; exact hw)
      rw [ends]
      exact ⟨moved.trig, moved.state⟩
    · exact ⟨_, _, displayCleared m h, retried_retryWait ((StoreKept.resume (shown := True) (calm := True) _).memory
        (memory_clearRasters m)), restSame_respond _ p _ _⟩

end Sys2Proof.Machine
end

section
/-!
SUPPORT. The column step (R114, R119 to R121, R123, R124): the pixels that it hits, the decay at a render's end, and the
segment that is taken next.
-/

namespace Sys2Proof.Machine

/-! ## Hits (R121) -/

/-- Reading after a map over the cells, where unlisted cells map to themselves. -/
theorem Cells.get_mapVals {α : Type} [DecidableEq α] {d : α} {m : Cells α} (h : Cells.wf d m = true) {f : α → α}
    (hf : f d = d) (a : Nat) : Cells.get d (Cells.mapVals d f m) a = f (Cells.get d m a) := by
  induction m with
  | nil => exact hf.symm
  | cons e m ih =>
    obtain ⟨k, v⟩ := e
    have hrest := h
    simp only [Cells.wf, Bool.and_eq_true, decide_eq_true_eq, List.all_eq_true] at hrest
    obtain ⟨⟨-, hlt⟩, hm⟩ := hrest
    have later : ∀ c ∈ Cells.mapVals d f m, k < c.1 := fun c hc => by
      obtain ⟨x, hx, he⟩ := List.mem_filterMap.1 hc
      split at he
      · cases he
      · obtain rfl := Option.some.inj he
        exact hlt x hx
    by_cases hv : f v = d
    · rw [show Cells.mapVals d f ((k, v) :: m) = Cells.mapVals d f m from List.filterMap_cons_none (if_pos hv)]
      by_cases hk : k = a
      · rw [Cells.get_of_lt (hk ▸ later), Cells.get, if_pos hk, hv]
      · rw [ih hm, Cells.get, if_neg hk]
    · rw [show Cells.mapVals d f ((k, v) :: m) = (k, f v) :: Cells.mapVals d f m from
        List.filterMap_cons_some (if_neg hv), Cells.get, Cells.get, ih hm]
      split <;> rfl

/-- The count of a pixel that is hit once. -/
theorem toNat_addHit {r : Cells Byte} (h : Cells.wf (0 : Byte) r = true) (k a : Nat) :
    (Cells.get 0 (addHit r k) a).toNat
      = if a = k then min 255 ((Cells.get 0 r a).toNat + 1) else (Cells.get 0 r a).toNat := by
  rw [addHit, Cells.get_put h]
  split
  · next e =>
    subst e
    split
    · next hv => rw [hv]; rfl
    · next hv => bv_omega
  · rfl

/-- Hits on different pixels: each is hit once, and no other. -/
theorem toNat_addHits {r : Cells Byte} (h : Cells.wf (0 : Byte) r = true) {ks : List Nat} (hn : ks.Nodup) (a : Nat) :
    (Cells.get 0 (ks.foldl addHit r) a).toNat
      = if a ∈ ks then min 255 ((Cells.get 0 r a).toNat + 1) else (Cells.get 0 r a).toNat := by
  induction ks generalizing r with
  | nil => rfl
  | cons k ks ih =>
    obtain ⟨hk, hks⟩ := List.nodup_cons.1 hn
    rw [List.foldl_cons, ih (r := addHit r k) (Cells.wf_put h _ _) hks, toNat_addHit h]
    by_cases hak : a = k
    · subst hak
      simp [hk]
    · simp [hak]

/-- The rows between the least and the greatest (R121). -/
theorem mem_spanOf (rows : List Nat) (row : Nat) :
    row ∈ spanOf rows ↔ row < 400 ∧ (∃ x ∈ rows, x ≤ row) ∧ ∃ x ∈ rows, row ≤ x := by
  simp only [spanOf, List.mem_filter, List.mem_range, Bool.and_eq_true, List.any_eq_true, decide_eq_true_eq]
  rfl

/-- The rows that bound a column's span (R120). -/
theorem mem_spanRows (s : State) (r : Render) (m : ChanMap) (x : Nat) : x ∈ spanRows s.acq r m ↔
    (∃ i < r.bin, x = rowOf m.pos m.inv (s.acq.sample r.seg m.ch (r.start + r.col * r.bin + i)))
      ∨ (r.col = 0 ∧ 0 < r.start ∧ x = rowOf m.pos m.inv (s.acq.sample r.seg m.ch (r.start - 1)))
      ∨ (r.col ≠ 0 ∧ r.prevRow = some x) := by
  have join : x ∈ (joinRow s.acq r m).toList ↔
      (r.col = 0 ∧ 0 < r.start ∧ x = rowOf m.pos m.inv (s.acq.sample r.seg m.ch (r.start - 1)))
        ∨ (r.col ≠ 0 ∧ r.prevRow = some x) := by
    unfold joinRow
    split
    · next hc =>
      split
      · next hs => simp [hc, hs]
      · next hs => simp [hc, hs]
    · next hc => simp [hc]
  rw [spanRows, List.mem_append, join]
  simp only [columnRows, List.mem_map, List.mem_range]
  exact or_congr_left (exists_congr fun i => and_congr_right fun _ => eq_comm)

theorem mem_span_iff_rowHit (s : State) (r : Render) (m : ChanMap) {row : Nat} (hrow : row < 400) :
    row ∈ spanOf (spanRows s.acq r m) ↔ RowHit s r m row := by
  rw [mem_spanOf, and_iff_right hrow]
  simp only [mem_spanRows]
  rfl

/-- The pixels of a raster lie apart (R116). -/
theorem rasterKey_inj {n k c d x y : Nat} (hn : 1 ≤ n) (hk : 1 ≤ k) (hc : c < 500) (hd : d < 500) (hx : x < 400)
    (hy : y < 400) : rasterKey n c x = rasterKey k d y ↔ n = k ∧ c = d ∧ x = y := by
  constructor
  · intro h
    change ((n - 1) * 500 + c) * 400 + x = ((k - 1) * 500 + d) * 400 + y at h
    omega
  · rintro ⟨rfl, rfl, rfl⟩
    rfl

/-- A column's pixels after it is drawn (R120, R121). -/
theorem toNat_drawColumn {s : State} (h : Cells.wf (0 : Byte) s.rend.rasters = true) (r : Render) (m : ChanMap)
    (hm : 1 ≤ m.ch) (hr : r.col < 500) {ch col row : Nat} (h1 : 1 ≤ ch) (hc : col < 500) (hrow : row < 400) :
    let old := (Cells.get 0 s.rend.rasters (((ch - 1) * 500 + col) * 400 + row)).toNat
    let new := (Cells.get 0 (drawColumn s.acq r m s.rend.rasters) (((ch - 1) * 500 + col) * 400 + row)).toNat
    (ch = m.ch → col = r.col → RowHit s r m row → new = min 255 (old + 1))
      ∧ (¬ (ch = m.ch ∧ col = r.col ∧ RowHit s r m row) → new = old) := by
  have rows : ∀ x ∈ spanOf (spanRows s.acq r m), x < 400 := fun x hx => ((mem_spanOf _ x).1 hx).1
  have nodup : ((spanOf (spanRows s.acq r m)).map fun x => rasterKey m.ch r.col x).Nodup := by
    refine List.Nodup.map_on (fun x hx y hy e => ?_) (List.nodup_range.filter _)
    exact ((rasterKey_inj hm hm hr hr (rows x hx) (rows y hy)).1 e).2.2
  have hit : rasterKey ch col row ∈ ((spanOf (spanRows s.acq r m)).map fun x => rasterKey m.ch r.col x)
      ↔ ch = m.ch ∧ col = r.col ∧ RowHit s r m row := by
    rw [List.mem_map, ← mem_span_iff_rowHit s r m hrow]
    constructor
    · rintro ⟨x, hx, e⟩
      obtain ⟨e1, e2, rfl⟩ := (rasterKey_inj hm h1 hr hc (rows x hx) hrow).1 e
      exact ⟨e1.symm, e2.symm, hx⟩
    · rintro ⟨rfl, rfl, hx⟩
      exact ⟨row, hx, rfl⟩
  have drawn := toNat_addHits h nodup (rasterKey ch col row)
  exact ⟨fun e1 e2 e3 => drawn.trans (if_pos (hit.2 ⟨e1, e2, e3⟩)), fun e => drawn.trans (if_neg (mt hit.1 e))⟩

/-! ## Decay (R123, R124) -/

/-- The counts after a decay (R124). -/
theorem toNat_decayRasters {r : Cells Byte} (h : Cells.wf (0 : Byte) r = true) (mode dec : Int) (a : Nat) :
    (Cells.get 0 (decayRasters mode dec r) a).toNat = decayedCount mode dec (Cells.get 0 r a).toNat := by
  unfold decayRasters decayedCount
  split
  · rfl
  · split
    · rw [Cells.get_mapVals h rfl]
      generalize Cells.get 0 r a = c
      unfold decayTimed
      split
      · next hc => rw [hc]; rfl
      · next hc =>
        have h0 : c.toNat ≠ 0 := fun e => hc (BitVec.eq_of_toNat_eq e)
        rw [if_neg h0, BitVec.toNat_ofNat]
        exact Nat.mod_eq_of_lt (lt_of_le_of_lt (Nat.sub_le _ _) c.isLt)
    · rfl

/-- The counts after a decay that is applied where it is due (R123). -/
theorem toNat_consumeDecay {s : State} (h : Cells.wf (0 : Byte) s.rend.rasters = true) (a : Nat) :
    (Cells.get 0 s.consumeDecay.rend.rasters a).toNat
      = if s.rend.decayDue = true then decayedCount (s.fieldVal 59) (s.fieldVal 60) (Cells.get 0 s.rend.rasters a).toNat
        else (Cells.get 0 s.rend.rasters a).toNat := by
  change (Cells.get 0 (if s.rend.decayDue = true then _ else s.rend.rasters) a).toNat = _
  split
  · exact toNat_decayRasters h _ _ a
  · rfl

/-! ## The step (R114) -/

/-- A column is drawn, and the render has gone on in its record. -/
def State.columnDrawn (s : State) (r : Render) (m : ChanMap) : State :=
  { s with rend := { s.rend with
    rasters := drawColumn s.acq r m s.rend.rasters
    render := some (nextColumn s.acq r m) } }

theorem columnStep_goesOn {s : State} {r : Render} {m : ChanMap} (h : (nextColumn s.acq r m).hand < r.chans.length) :
    s.columnStep r m = s.columnDrawn r m := if_pos h

theorem columnStep_ends {s : State} {r : Render} {m : ChanMap} (h : ¬ (nextColumn s.acq r m).hand < r.chans.length) :
    s.columnStep r m = (s.columnDrawn r m).abandonRender.resume := if_neg h

theorem storeMoved_columnStep (s : State) (r : Render) (m : ChanMap) : StoreMoved s (s.columnStep r m) :=
  .ite (.rend s _) (((StoreMoved.rend s _).trans (.abandonRender _)).trans (.resume _))

/-- The record of the next column of the same channel (R114, R120). -/
theorem nextColumn_column (a : Acq) {r : Render} (m : ChanMap) (h : r.col + 1 < 500) :
    nextColumn a r m = { r with
      col := r.col + 1
      prevRow := if r.bin = 0 then none
        else some (rowOf m.pos m.inv (a.sample r.seg m.ch (r.start + r.col * r.bin + (r.bin - 1)))) } := by
  refine (if_pos h).trans ?_
  have last : (columnRows a r m).getLast? = if r.bin = 0 then none
      else some (rowOf m.pos m.inv (a.sample r.seg m.ch (r.start + r.col * r.bin + (r.bin - 1)))) := by
    rw [columnRows, List.getLast?_map, List.getLast?_range]
    split <;> rfl
  rw [last]

/-- The record of the next channel's first column (R114). -/
theorem nextColumn_channel (a : Acq) {r : Render} (m : ChanMap) (h : r.col + 1 = 500) :
    nextColumn a r m = { r with hand := r.hand + 1, col := 0, prevRow := none, read := 0 } :=
  if_neg (by rw [h]; exact Nat.lt_irrefl _)

/-- A render ends with the last column of its last channel. -/
theorem nextColumn_last (a : Acq) {r : Render} {m : ChanMap} (hm : r.chans[r.hand]? = some m) (hc : r.col < 500) :
    ¬ (nextColumn a r m).hand < r.chans.length ↔ r.col + 1 = 500 ∧ r.hand + 1 = r.chans.length := by
  obtain ⟨hlt, -⟩ := List.getElem?_eq_some_iff.1 hm
  by_cases h : r.col + 1 < 500
  · rw [nextColumn_column a m h]
    exact ⟨fun k => absurd hlt k, fun k => by omega⟩
  · rw [nextColumn_channel a m (by omega)]
    change ¬ r.hand + 1 < r.chans.length ↔ _
    omega

section
variable {s : State} {r : Render} {m : ChanMap} (hr : s.rend.render = some r)
include hr

theorem memory_columnDrawn (mem : MemoryLaw s) : MemoryLaw (s.columnDrawn r m) :=
  (StoreKept.drawn (shown := True) (calm := True) hr m).memory mem

theorem queueLaws_columnDrawn (q : QueueLaws s) : QueueLaws (s.columnDrawn r m) :=
  q.alike (fun _ => rfl) rfl (by rw [hr]; exact congrArg some (seg_nextColumn _ _ _))

/-- What the end of a render leaves, before the renderer goes on: its segment done with, the queue and every other record
as they were (R87, R108, R114). -/
theorem ended_render (mem : MemoryLaw s) (q : QueueLaws s) :
    let t := (s.columnDrawn r m).abandonRender
    t.rend.queue = s.rend.queue ∧ (∀ j, j ≠ r.seg → t.acq.seg j = s.acq.seg j)
      ∧ (KeptStill s r.seg → t.acq.seg r.seg = { s.acq.seg r.seg with pending := false })
      ∧ (¬ KeptStill s r.seg → t.acq.seg r.seg = Seg.blank) := by
  have md := memory_columnDrawn (m := m) hr mem
  have qd := queueLaws_columnDrawn (m := m) hr q
  obtain ⟨hqueue, hothers⟩ := queue_abandonRender md qd
  have hseg : (nextColumn s.acq r m).seg = r.seg := seg_nextColumn _ _ _
  have hend := seg_abandonRender_render md (r := nextColumn s.acq r m) rfl
    (by rw [hseg]; exact (q.used r.seg (.inr ⟨r, hr, rfl⟩)).1)
  rw [hseg] at hend
  refine ⟨hqueue, fun j hj => hothers j fun x hx e => ?_, hend⟩
  obtain rfl : nextColumn s.acq r m = x := Option.some.inj hx
  exact hj (e ▸ hseg)

/-- The end of a render, with the renderer gone on (R87, R114). -/
theorem seg_columnStep_last (mem : MemoryLaw s) (q : QueueLaws s)
    (hl : ¬ (nextColumn s.acq r m).hand < r.chans.length) :
    let t := s.columnStep r m
    ((KeptStill s r.seg → t.acq.seg r.seg = { s.acq.seg r.seg with pending := false })
        ∧ (¬ KeptStill s r.seg → t.acq.seg r.seg = Seg.blank))
      ∧ (s.rend.queue = [] → t.rend.render = none ∧ t.rend.queue = [] ∧ t.rend.decayDue = false
        ∧ ∀ j, j ≠ r.seg → t.acq.seg j = s.acq.seg j)
      ∧ ∀ i k, s.rend.queue = i :: k → s.acq.segChannels (s.acq.seg i) ≠ [] →
        t.rend.queue = k ∧ t.rend.decayDue = false ∧ (∃ x, t.rend.render = some x ∧ RenderFormed s i x)
          ∧ ∀ j, j ≠ r.seg → t.acq.seg j = s.acq.seg j := by
  dsimp only
  rw [columnStep_ends hl]
  obtain ⟨hqueue, hothers, hend⟩ := ended_render (m := m) hr mem q
  have mb : MemoryLaw (s.columnDrawn r m).abandonRender :=
    (StoreKept.abandonRender (shown := True) (calm := True) _).memory (memory_columnDrawn hr mem)
  have qb := (queueLaws_columnDrawn (m := m) hr q).abandonRender (memory_columnDrawn hr mem)
  have hnone := render_abandonRender (s.columnDrawn r m)
  obtain ⟨skipped, t⟩ := taken_resume mb qb hnone
  have moved : StoreMoved s (s.columnDrawn r m).abandonRender := (StoreMoved.rend s _).trans (.abandonRender _)
  have due : (s.columnDrawn r m).abandonRender.resume.rend.decayDue = false := congrArg Prod.snd (drawn_resume hnone)
  have others (hs : skipped = []) (j : Nat) (hj : j ≠ r.seg) :
      (s.columnDrawn r m).abandonRender.resume.acq.seg j = s.acq.seg j :=
    (t.others j (by rw [hs]; simp)).trans (hothers j hj)
  have split := t.split
  rw [hqueue] at split
  refine ⟨?_, fun hq => ?_, fun i k hq hd => ?_⟩
  · rw [t.drawn (.inl (by rw [hqueue]; exact q.apart r hr))]
    exact hend
  · rw [hq] at split
    obtain ⟨h12, h3⟩ := List.append_eq_nil_iff.1 split.symm
    obtain ⟨h1, h2⟩ := List.append_eq_nil_iff.1 h12
    exact ⟨by simpa using h2, h3, due, others h1⟩
  · have hne : i ≠ r.seg := fun e => q.apart r hr (by rw [hq, e]; exact List.mem_cons_self)
    have hskip : skipped = [] := by
      cases hs : skipped with
      | nil => rfl
      | cons x l =>
        rw [hq, hs] at split
        obtain rfl : i = x := (List.cons.inj split).1
        have := t.empty i (by rw [hs]; exact List.mem_cons_self)
        rw [hothers i hne, moved.segChannels rfl] at this
        exact absurd this hd
    rw [hq, hskip, List.nil_append] at split
    cases hx : (s.columnDrawn r m).abandonRender.resume.rend.render with
    | none =>
      rw [hx, t.none hx] at split
      cases split
    | some x =>
      rw [hx] at split
      obtain ⟨e1, e2⟩ := List.cons.inj split
      subst e1
      exact ⟨e2.symm, due, ⟨x, rfl, (moved.formed (by rw [hothers _ hne])).1 (t.formed x hx).2⟩, others hskip⟩

/-- The counts after a step: those of the drawn column, decayed where a render has ended with a decay due (R123). -/
theorem toNat_columnStep (mem : MemoryLaw s) (a : Nat) :
    (Cells.get 0 (s.columnStep r m).rend.rasters a).toNat
      = (fun c => if ¬ (nextColumn s.acq r m).hand < r.chans.length ∧ s.rend.decayDue = true
          then decayedCount (s.fieldVal 59) (s.fieldVal 60) c else c)
        (Cells.get 0 (drawColumn s.acq r m s.rend.rasters) a).toNat := by
  dsimp only
  by_cases hl : (nextColumn s.acq r m).hand < r.chans.length
  · rw [columnStep_goesOn hl, if_neg fun k => k.1 hl]
    rfl
  · rw [columnStep_ends hl]
    have hnone := render_abandonRender (s.columnDrawn r m)
    have mb : MemoryLaw (s.columnDrawn r m).abandonRender :=
      (StoreKept.abandonRender (shown := True) (calm := True) _).memory (memory_columnDrawn hr mem)
    have moved : StoreMoved s (s.columnDrawn r m).abandonRender := (StoreMoved.rend s _).trans (.abandonRender _)
    obtain ⟨hras, hdue⟩ := Prod.mk.inj (drawn_abandonRender (s.columnDrawn r m))
    have hres : (s.columnDrawn r m).abandonRender.resume.rend.rasters
        = (s.columnDrawn r m).abandonRender.consumeDecay.rend.rasters := congrArg Prod.fst (drawn_resume hnone)
    rw [hres, toNat_consumeDecay mb.2.2.1, moved.fieldVal, moved.fieldVal, hras, hdue]
    change (if s.rend.decayDue = true then _ else _) = _
    simp only [hl, not_false_eq_true, true_and]
    rfl

end

theorem exec_renderColumnStep {s : State} {r : Render} {m : ChanMap} (hr : s.rend.render = some r)
    (hm : r.chans[r.hand]? = some m) : exec .renderColumnStep s
      = .next (if samplesNeeded r ≤ r.read then (s.columnStep r m).retryWait else s) := by
  change execRenderColumnStep s = _
  unfold execRenderColumnStep
  rw [hr]
  dsimp only
  rw [hm]

theorem inner_execRenderColumnStep (s : State) : ∃ t, exec .renderColumnStep s = .next t ∧ Inner s t
    ∧ (s.rend.render = none → t = s) := by
  refine ⟨_, rfl, ?_⟩
  split
  · next r hr =>
    refine ⟨?_, fun h => by rw [hr] at h; cases h⟩
    split
    · exact .ite ((inner_columnStep s r _).trans (inner_retryWait _)) (.refl s)
    · exact .refl s
  · exact ⟨.refl s, fun _ => rfl⟩

/-- Settles O54. -/
theorem renderColumnStep : Obligations.RenderColumnStep := by
  intro s mem law hw
  obtain ⟨t, he, hin, hnone⟩ := inner_execRenderColumnStep s
  refine ⟨t, he, hin, hnone, fun r m hr hm h1 hc => ?_⟩
  obtain ⟨q, -⟩ := (renderQueueLaw_iff s).1 law
  have ht := Host.Outcome.next.inj (he.symm.trans (exec_renderColumnStep hr hm))
  refine ⟨fun hn => ht.trans (if_neg (not_le.2 hn)), fun hn => ?_⟩
  obtain rfl : t = s.columnStep r m := by
    rw [ht, if_pos (show samplesNeeded r ≤ r.read from hn)]
    exact retryWait_of_ne (by rw [(storeMoved_columnStep s r m).state]; exact hw)
  have hlast := nextColumn_last s.acq hm hc
  obtain ⟨hand, -⟩ := List.getElem?_eq_some_iff.1 hm
  dsimp only
  refine ⟨fun ch col row hch hcol hrow => ?_, fun hcol => ?_, fun hcol hh => ?_, fun hl => ?_⟩
  · obtain ⟨hit, missed⟩ := toNat_drawColumn mem.2.2.1 r m h1 hc hch hcol hrow
    rw [toNat_columnStep hr mem]
    simp only [hlast]
    exact ⟨fun e1 e2 e3 => by rw [hit e1 e2 e3], fun e => by rw [missed e]⟩
  · rw [columnStep_goesOn (by rw [nextColumn_column _ _ hcol]; exact hand), State.columnDrawn,
      nextColumn_column _ _ hcol]
  · rw [columnStep_goesOn (by rw [nextColumn_channel _ _ hcol]; exact hh), State.columnDrawn,
      nextColumn_channel _ _ hcol]
  · obtain ⟨⟨kept, freed⟩, empty, next⟩ := seg_columnStep_last hr mem q (hlast.2 hl)
    exact ⟨kept, freed, empty, next⟩

end Sys2Proof.Machine
end

section
/-!
SUPPORT. An arm once a segment has been completed: what it leaves of a segment that it cannot reuse, of the trigger unit and
of the renderer, and the states that it leads to (R84, R88, R89 to R92).
-/

namespace Sys2Proof.Machine

/-! ## A segment that slot choice does not reuse -/

/-- Segment i, its snapshot's values and its place in the sequence list have stayed. -/
def PastSeg (i : Nat) (s t : State) : Prop :=
  t.acq.seg i = s.acq.seg i ∧ (∀ id, t.acq.snapVal (s.acq.seg i) id = s.acq.snapVal (s.acq.seg i) id)
    ∧ (i ∈ s.acq.seqList → i ∈ t.acq.seqList)

theorem PastSeg.refl (i : Nat) (s : State) : PastSeg i s s := ⟨rfl, fun _ => rfl, id⟩

theorem PastSeg.trans {i : Nat} {s t u : State} (h : PastSeg i s t) (k : PastSeg i t u) : PastSeg i s u := by
  obtain ⟨hs, hv, hl⟩ := h
  obtain ⟨ks, kv, kl⟩ := k
  rw [hs] at ks kv
  exact ⟨ks, fun id => (kv id).trans (hv id), kl ∘ hl⟩

/-- A used segment's snapshot is an entry whose count is not 0 (R88). -/
theorem SnapshotLaw.referred {s : State} (l : SnapshotLaw s) {i : Nat} (hu : (s.acq.seg i).state ≠ .free) :
    ∃ k n, (s.acq.seg i).snap = some k ∧ s.acq.snaps[k]? = some n ∧ n.refs ≠ 0 := by
  obtain ⟨hlen, hcount, hused, -⟩ := l
  obtain ⟨k, hk, hsnap⟩ := hused i hu
  have hn : s.acq.snaps[k]? = some s.acq.snaps[k] := List.getElem?_eq_getElem (hlen ▸ hk)
  refine ⟨k, _, hsnap, hn, ?_⟩
  rw [hcount k _ hn]
  exact Nat.ne_of_gt (List.countP_pos_iff.2 ⟨_, Acq.mem_segs hu, decide_eq_true ⟨hu, hsnap⟩⟩)

/-- The entry that a segment to be filled obtains is not one that another segment refers to with other values (R88). -/
theorem vals_obtain_referred {s : State} {e k : Nat} {n : Snap} {snaps : List Snap} (h : s.obtain = some (e, snaps))
    (hk : s.acq.snaps[k]? = some n) (hn : n.refs ≠ 0) :
    (snaps.getD k Snap.initial).vals = (s.acq.snaps.getD k Snap.initial).vals := by
  rcases entryTaken_iff.2 h with ⟨-, rfl⟩ | ⟨-, ⟨m, hm, h0⟩, -, rfl⟩
  · rfl
  · have hne : e ≠ k := by
      rintro rfl
      rw [hk] at hm
      exact hn (Option.some.inj hm ▸ h0)
    rw [List.getD_eq_getElem?_getD, List.getElem?_set_ne hne, List.getD_eq_getElem?_getD]

/-- A snapshot reads the same where the entry it names holds the same values. -/
theorem snapVal_congr {a b : Acq} {g : Seg} {k : Nat} (hg : g.snap = some k)
    (h : (b.snaps.getD k Snap.initial).vals = (a.snaps.getD k Snap.initial).vals) (id : Nat) :
    b.snapVal g id = a.snapVal g id := by
  have hvals : (b.snapOf g).vals = (a.snapOf g).vals := by simp only [Acq.snapOf, hg, h]
  exact congrArg (fun l : List (Nat × Int) => ((l.find? fun p => p.1 == id).map (·.2)).getD 0) hvals

theorem pastSeg_enterFilling {s : State} (m : MemoryLaw s) (l : SnapshotLaw s) {i j e : Nat} {snaps : List Snap}
    (hu : (s.acq.seg i).state ≠ .free) (hj : s.findSlot = some j) (ho : s.obtain = some (e, snaps)) :
    PastSeg i s (s.enterFilling j e snaps) := by
  have entered := fillingEntered_enterFilling m.1 j ho
  have hne : i ≠ j := by
    rintro rfl
    exact hu ((slotTaken_iff m.1 i).2 hj).2.1.1
  obtain ⟨k, n, hsnap, hk, hn⟩ := l.referred hu
  refine ⟨entered.others i hne, fun id => snapVal_congr hsnap ?_ id, fun h => by rw [entered.acq]; exact h⟩
  rw [entered.acq]
  refine Eq.trans ?_ (vals_obtain_referred ho hk hn)
  simp only [List.getD_eq_getElem?_getD, getElem?_updateAt]
  cases snaps[k]? with
  | none => rfl
  | some x => simp only [Option.map_some, Option.getD_some]; split <;> rfl

theorem pastSeg_reuseCurrent {s : State} (m : MemoryLaw s) {i : Nat} (h : Unreusable s i) : PastSeg i s s.reuseCurrent := by
  refine ⟨seg_reuseCurrent_unreusable m h, fun id => ?_, ?_⟩
  · rcases reuseCurrent_unreusable h with e | ⟨j, -, e⟩
    · rw [e]
    · rw [e, (StoreMoved.freeSeg s j).vals.snapVal rfl]
  · rcases reuseCurrent_unreusable h with e | ⟨j, hj, e⟩
    · rw [e]
      exact id
    · rw [e]
      exact fun hi => List.mem_filter.2 ⟨hi, by simpa using Ne.symm hj⟩

/-- An arm leaves a segment that it cannot reuse as it was (R85, R88, R90). -/
theorem pastSeg_arm {s : State} (m : MemoryLaw s) (c : CurrentLaw s.acq) (l : SnapshotLaw s) {i : Nat}
    (h : Unreusable s i) : PastSeg i s s.arm := by
  have reused := pastSeg_reuseCurrent m h
  unfold State.arm State.slotChoice
  split
  · dsimp only
    split
    · next j e snaps hj ho =>
      have kept := StoreKept.reuseCurrent (shown := True) (calm := True) s
      refine reused.trans (pastSeg_enterFilling (kept.memory m) (kept.snapshot trivial m c l) ?_ hj ho)
      rw [reused.1, h.1]
      simp
    · exact reused
  · exact .refl i s

theorem Unreusable.arm {s : State} (m : MemoryLaw s) {i : Nat} (h : Unreusable s i) : Unreusable s.arm i := by
  rw [Unreusable, seg_arm_unreusable m h, (ActMoved.arm s).counters.1]
  exact h

theorem pastSeg_retryWait {s : State} (m : MemoryLaw s) (c : CurrentLaw s.acq) (l : SnapshotLaw s) {i : Nat}
    (h : Unreusable s i) : PastSeg i s s.retryWait := by
  unfold State.retryWait
  split
  · exact pastSeg_arm m c l h
  · exact .refl i s

/-- What keeps a segment that is not render-pending keeps it all through what the renderer does. -/
theorem pastSeg_resume {s : State} (m : MemoryLaw s) {i : Nat} (hc : (s.acq.seg i).state = .complete)
    (hp : (s.acq.seg i).pending = false) (hk : KeptStill s i) : PastSeg i s s.resume := by
  obtain ⟨-, ⟨b, hb⟩, hl⟩ := staysStill_resume m hk
  refine ⟨?_, (StoreMoved.resume s).vals.snapVal rfl, hl⟩
  rcases allFaded_resume m i with h | h | h
  · exact h
  · rw [h, ← hp]
  · rw [h] at hb
    rw [congrArg Seg.state hb.symm] at hc
    cases hc

/-! ## The trigger unit -/

/-- The tracking state is clear (R71). -/
def TrackClear (x : Trig) : Prop := trackingCleared x = x

/-- What an arm leaves of a trigger unit: the tracking state stays clear, and HOLDOFF is loaded where a remembered FORCE is
taken (R71, R73, R77). -/
structure TrigArmed (s t : State) : Prop where
  clear : TrackClear s.trig → TrackClear t.trig
  holdoff : t.trig.holdoff = s.trig.holdoff ∨ t.trig.holdoff = (s.fieldVal 49).toNat * 10

theorem TrigArmed.of_eq {s t : State} (h : t.trig = s.trig) : TrigArmed s t := ⟨fun k => h ▸ k, .inl (h ▸ rfl)⟩

theorem TrigArmed.trans {s t u : State} (h : TrigArmed s t) (hf : t.fieldVal = s.fieldVal) (k : TrigArmed t u) :
    TrigArmed s u := by
  refine ⟨k.clear ∘ h.clear, ?_⟩
  have := k.holdoff
  rw [hf] at this
  rcases this with e | e
  · exact h.holdoff.imp e.trans e.trans
  · exact .inr e

theorem trig_reuseCurrent (s : State) : s.reuseCurrent.trig = s.trig := by
  unfold State.reuseCurrent
  split
  · rfl
  · split
    · split <;> rfl
    · rfl

theorem trigArmed_enterFilling {s : State} (i e : Nat) (snaps : List Snap) :
    TrigArmed s (s.enterFilling i e snaps) := by
  obtain ⟨-, htrig, -⟩ := enterFilling_passes s i e snaps
  refine ⟨fun _ => ?_, ?_⟩ <;> rw [htrig]
  · split
    · rfl
    · split
      · rfl
      · split <;> rfl
  · split
    · exact .inl rfl
    · split
      · exact .inr rfl
      · split <;> exact .inl rfl

theorem trigArmed_arm (s : State) : TrigArmed s s.arm := by
  unfold State.arm State.slotChoice
  split
  · dsimp only
    split
    · exact (TrigArmed.of_eq (trig_reuseCurrent s)).trans (fieldVal_congr (inner_reuseCurrent s).recs)
        (trigArmed_enterFilling _ _ _)
    · exact .of_eq (trig_reuseCurrent s)
  · exact .of_eq rfl

/-- An arm at the end of an act, with the retry that may follow it. -/
theorem trigArmed_arm_finishAct (s : State) : TrigArmed s s.arm.finishAct := by
  have resumed := StoreMoved.resume s.arm
  refine (trigArmed_arm s).trans (fieldVal_congr (inner_arm s).recs) ((TrigArmed.of_eq resumed.trig).trans
    (funext resumed.fieldVal) ?_)
  unfold State.finishAct State.retryWait
  split
  · exact trigArmed_arm _
  · exact .of_eq rfl

/-! ## Where an arm leads -/

/-- An arm leads to slot choice where the front end is settled, and to SETTLING otherwise (R84, R89). -/
theorem armLeft_arm (s : State) : ArmLeft s s.arm := by
  refine ⟨fun h => ?_, fun h => ?_⟩
  · rw [State.arm, if_neg (mt (feSettled_iff s).1 h)]
  · rw [State.arm, if_pos ((feSettled_iff s).2 h), State.slotChoice]
    dsimp only
    split
    · next i e snaps _ _ =>
      obtain ⟨-, -, hstate, -⟩ := enterFilling_passes s.reuseCurrent i e snaps
      rw [hstate]
      split
      · exact .inr (.inl rfl)
      · split
        · exact .inr (.inr (.inr rfl))
        · exact .inr (.inr (.inl rfl))
    · exact .inl rfl

theorem armLeft_arm_finishAct (s : State) : ArmLeft s s.arm.finishAct := by
  have resumed := StoreMoved.resume s.arm
  unfold State.finishAct State.retryWait
  split
  · have inner := (inner_arm s).trans (inner_resume _)
    have same : FrontSettled s.arm.resume ↔ FrontSettled s :=
      frontSettled_congr inner.straps inner.recs ((ActMoved.arm s).trans resumed.act).fe
    have again := armLeft_arm s.arm.resume
    rwa [ArmLeft, same] at again
  · rw [ArmLeft, resumed.state]
    exact armLeft_arm s

/-! ## The act -/

section
variable {s : State} (m : MemoryLaw s) (c : CurrentLaw s.acq)
include m c

/-- An arm leaves the renderer to its law, so that nothing but the retry follows it in its act (R92, R107). -/
theorem arm_finishAct (h : RenderQueueLaw s) : s.arm.finishAct = s.arm.retryWait ∧ s.arm.retryWait.rend = s.rend := by
  obtain ⟨q, r⟩ := (renderQueueLaw_iff s).1 h
  have qa := (StoreKept.arm (shown := True) (calm := True) s).queue trivial m c q
  exact ⟨congrArg State.retryWait (resume_of_law ((renderQueueLaw_iff _).2 ⟨qa, resting_arm q r⟩)),
    (rend_retryWait qa).trans (rend_arm q)⟩

/-- In RUN a segment that waits for its render outlasts the arm (R90). -/
theorem pastSeg_arm_finishAct (l : SnapshotLaw s) (h : RenderQueueLaw s) {i : Nat} (hu : Unreusable s i) :
    PastSeg i s s.arm.finishAct := by
  rw [(arm_finishAct m c h).1]
  have kept := StoreKept.arm (shown := True) (calm := True) s
  exact (pastSeg_arm m c l hu).trans
    (pastSeg_retryWait (kept.memory m) (kept.current m c) (kept.snapshot trivial m c l) (hu.arm m))

/-- In SEQUENCE a member of the sequence outlasts the arm, and what the renderer does before the retry (R91, R92). -/
theorem pastSeg_arm_finishAct_sequence (l : SnapshotLaw s) {i : Nat} (hm : s.acq.mode = .sequence)
    (hc : (s.acq.seg i).state = .complete) (hp : (s.acq.seg i).pending = false) (hk : KeptStill s i) :
    PastSeg i s s.arm.finishAct := by
  have hu : Unreusable s i := ⟨hc, .inr (.inr hm)⟩
  have armed := pastSeg_arm m c l hu
  have kept := StoreKept.arm (shown := True) (calm := True) s
  have resumed := pastSeg_resume (kept.memory m) (by rw [armed.1]; exact hc) (by rw [armed.1]; exact hp)
    (hk.of_eq (slots_of_inner kept.inner) ⟨_, armed.1⟩ armed.2.2)
  have last := kept.trans (.resume _)
  refine (armed.trans resumed).trans (pastSeg_retryWait (last.memory m) (last.current m c) (last.snapshot trivial m c l)
    ⟨?_, .inr (.inr ?_)⟩)
  · rw [resumed.1, armed.1]
    exact hc
  · exact (((ActMoved.arm s).trans (StoreMoved.resume _).act).counters.1).trans hm

end

end Sys2Proof.Machine
end

section
/-!
SUPPORT. A completion up to its notice: the record, the hand-off, SEGMENT_DONE (R97); and the slots that are free once it has
been made (R85, R87).
-/

namespace Sys2Proof.Machine

/-- A segment with a channel to draw that waits is not passed over: it waits still, or is in render (R112). -/
theorem queued_resume {s : State} (m : MemoryLaw s) (q : QueueLaws s) {i : Nat} (h : i ∈ s.rend.queue)
    (hd : s.acq.segChannels (s.acq.seg i) ≠ []) : Queued s.resume i := by
  cases hr : s.rend.render with
  | some r =>
    have same : s.resume = s := by rw [State.resume, hr]
    rw [same]
    exact .inl h
  | none =>
    obtain ⟨skipped, t⟩ := taken_resume m q hr
    rw [t.split, List.append_assoc] at h
    rcases List.mem_append.1 h with k | k
    · exact absurd (t.empty i k) hd
    · rcases List.mem_append.1 k with k | k
      · exact .inr (by simpa using k)
      · exact .inl k

/-! ## The segment's record -/

/-- The record of segment i is that of the completed segment, and its snapshot reads as before (R97). -/
def RecordDone (s t : State) (i : Nat) : Prop :=
  (∃ b, t.acq.seg i = { s.completedSeg i with current := true, pending := b })
    ∧ ∀ id, t.acq.snapVal (t.acq.seg i) id = s.acq.snapVal (s.acq.seg i) id

theorem RecordDone.past {s t u : State} {i : Nat} (h : RecordDone s t i) (k : PastSeg i t u) : RecordDone s u i := by
  obtain ⟨ks, kv, -⟩ := k
  rw [RecordDone, ks]
  exact ⟨h.1, fun id => (kv id).trans (h.2 id)⟩

theorem RecordDone.still {s t u : State} {i : Nat} (h : RecordDone s t i) (k : StaysStill t u i)
    (hv : ValsSame t.acq u.acq) : RecordDone s u i := by
  obtain ⟨⟨_, h⟩, hs⟩ := h
  obtain ⟨-, ⟨b, k⟩, -⟩ := k
  exact ⟨⟨b, by rw [k, h]⟩, fun id => (hv.snapVal (by rw [k]) id).trans (hs id)⟩

theorem RecordDone.segChannels {s t : State} {i : Nat} (h : RecordDone s t i) :
    t.acq.segChannels (t.acq.seg i) = s.acq.segChannels (s.acq.seg i) := by simp only [Acq.segChannels, h.2]

theorem RecordDone.segLength {s t : State} {i : Nat} (h : RecordDone s t i) :
    t.acq.segLength (t.acq.seg i) = s.acq.segLength (s.acq.seg i) := congrArg lengthOf (h.2 _)

/-- The sequence number, the time of the trigger and the kind of trigger in SEGMENT_DONE (R97, R106). -/
def State.doneNotice (s : State) (i : Nat) : Notice := .segmentDone i (s.acq.counter + 1) (s.acq.seg i).auto 0

/-- What is done beside the segment store by a completion, up to its notice. -/
structure Announced (s t : State) (i : Nat) : Prop where
  counters : (t.acq.mode, t.acq.counter, t.acq.samples, t.acq.seqCount)
    = (s.acq.mode, s.acq.counter + 1, s.acq.samples, s.acq.seqCount)
  fe : t.fe = s.fe
  trig : t.trig = trackingCleared s.trig
  posted : Posted s t [s.doneNotice i]

/-- The completed segment is handed to the renderer, or not: the store has moved. -/
theorem storeMoved_handCompleted (s : State) (i : Nat) :
    StoreMoved (s.completed i) ((s.completeSeg i).handCompleted i) :=
  (StoreMoved.makeCurrent _ i).trans (.ite (.refl _) ((StoreMoved.handOff _ i).trans (.resume _)))

section
variable {s : State} {i : Nat} (m : MemoryLaw s)
include m

theorem announced_announce : Announced s (s.announce i) i := by
  have moved := storeMoved_handCompleted s i
  have acq := moved.acq
  have notice : Notice.segmentDone i ((s.completeSeg i).seg i).seq ((s.completeSeg i).seg i).auto 0 = s.doneNotice i := by
    rw [State.seg_eq, seg_completeSeg_self m]
    rfl
  refine ⟨?_, moved.act.fe, congrArg trackingCleared moved.trig,
    congrArg₂ PortState.takeNotice (moved.port .a) notice, congrArg₂ PortState.takeNotice (moved.port .b) notice⟩
  rw [show (s.announce i).acq = _ from acq]
  rfl

variable (hk : i < s.slots)
include hk

theorem keptStill_completeSeg : KeptStill (s.completeSeg i) i :=
  .inr ⟨by rw [slots_of_inner (inner_completeSeg s i)]; exact hk, .inl (by rw [seg_completeSeg_self m])⟩

/-- Once its notice is posted the segment is COMPLETE and current, wherever the renderer has got to (R97). -/
theorem recordDone_announce (hi : (s.acq.seg i).state = .filling) :
    RecordDone s (s.announce i) i ∧ KeptStill (s.announce i) i := by
  have done : RecordDone s (s.completeSeg i) i := by
    have hseg := seg_completeSeg_self m i
    exact ⟨⟨_, hseg⟩, (StoreMoved.makeCurrent (s.completed i) i).vals.snapVal (by rw [hseg]; rfl)⟩
  have still := keptStill_completeSeg m hk
  have md := (StoreKept.completeSeg (shown := True) (calm := True) fun _ => hi).memory m
  have handed : RecordDone s ((s.completeSeg i).handCompleted i) i ∧ KeptStill ((s.completeSeg i).handCompleted i) i := by
    unfold State.handCompleted
    split
    · exact ⟨done, still⟩
    · have off := staysStill_handOff md still i
      have all := off.trans (staysStill_resume (memory_handOff md i) off.1)
      exact ⟨done.still all ((StoreMoved.handOff _ i).trans (.resume _)).vals, all.1⟩
  exact handed

end

/-! ## The hand-off -/

section
variable {s : State} {i : Nat} (m : MemoryLaw s) (q : QueueLaws s) (hi : (s.acq.seg i).state = .filling)
include m q hi

/-- In SEQUENCE the segment has not been handed to the renderer (R97, R99). -/
theorem seg_announce_sequence (hm : s.acq.mode = .sequence) :
    (s.announce i).acq.seg i = { s.completedSeg i with current := true } ∧ ((s.announce i).acq.seg i).pending = false := by
  have hseg : (s.announce i).acq.seg i = { s.completedSeg i with current := true } :=
    (congrArg (fun t : State => t.acq.seg i) (handCompleted_of_sequence hm i)).trans (seg_completeSeg_self m i)
  exact ⟨hseg, by rw [hseg]; exact q.not_pending hi⟩

variable (c : CurrentLaw s.acq)
include c

/-- In RUN and SINGLE a segment with a channel to draw has been handed to the renderer, which has gone on (R97, R98). -/
theorem queued_announce (hk : i < s.slots) (hm : s.acq.mode ≠ .sequence) :
    RenderQueueLaw (s.announce i) ∧ (s.acq.segChannels (s.acq.seg i) ≠ [] → Queued (s.announce i) i) := by
  have complete := StoreKept.completeSeg (shown := True) (calm := True) fun _ => hi
  have md := complete.memory m
  have hseg := seg_completeSeg_self m i
  have qh : QueueLaws ((s.completeSeg i).handOff i) := (complete.queue trivial m c q).handOff md (by rw [hseg]; rfl)
    fun r => StoreKept.render_completeSeg m c q hi
  have mh := memory_handOff md i
  have handed : (s.completeSeg i).handCompleted i = ((s.completeSeg i).handOff i).resume :=
    if_neg (by rw [completeSeg_eq, mode_makeCurrent]; exact hm)
  have law : RenderQueueLaw ((s.completeSeg i).handCompleted i) := handed ▸ qh.resume mh
  refine ⟨law, fun hd => ?_⟩
  have queued : Queued ((s.completeSeg i).handCompleted i) i := by
    rw [handed]
    refine queued_resume mh qh (mem_handOff _ i) ?_
    obtain ⟨-, ⟨b, hb⟩, -⟩ := staysStill_handOff md (keptStill_completeSeg m hk) i
    have moved : StoreMoved (s.completed i) ((s.completeSeg i).handOff i) := (StoreMoved.makeCurrent _ i).trans (.handOff _ i)
    rwa [moved.segChannels (g := s.acq.seg i) (by rw [hb, hseg]; rfl)]
  exact queued

end

/-! ## The slots that are free -/

/-- Every segment that is used now was used before, with the same snapshot. -/
def UsedBefore (s t : State) : Prop :=
  ∀ j, (t.acq.seg j).state ≠ .free → (s.acq.seg j).state ≠ .free ∧ (t.acq.seg j).snap = (s.acq.seg j).snap

theorem UsedBefore.trans {s t u : State} (h : UsedBefore s t) (k : UsedBefore t u) : UsedBefore s u := fun j hj =>
  ⟨(h j (k j hj).1).1, (k j hj).2.trans (h j (k j hj).1).2⟩

/-- A slot that was available is so where nothing has come into use (R85). -/
theorem UsedBefore.slotFree {s t : State} (h : UsedBefore s t) (hf : t.fieldVal 33 = s.fieldVal 33)
    (hv : ValsSame s.acq t.acq) {j : Nat} (hj : SlotFree s j) : SlotFree t j := by
  obtain ⟨hfree, hapart⟩ := hj
  refine ⟨by_contra fun hn => (h j hn).1 hfree, fun k hk => ?_⟩
  obtain ⟨hu, hsnap⟩ := h k hk
  rw [hf, Acq.segLength, hv.snapVal hsnap]
  exact hapart k hu

/-- A record that takes flags alone is used as it was. -/
theorem usedBefore_setSeg {s : State} (m : MemoryLaw s) {i : Nat} {g : Seg}
    (hg : (g.state, g.snap) = ((s.acq.seg i).state, (s.acq.seg i).snap)) :
    UsedBefore s (s.setSeg i g) ∧ UsedBefore (s.setSeg i g) s := by
  obtain ⟨hs, hn⟩ := Prod.mk.inj hg
  have both (j : Nat) : ((s.setSeg i g).acq.seg j).state = (s.acq.seg j).state
      ∧ ((s.setSeg i g).acq.seg j).snap = (s.acq.seg j).snap := by
    rw [seg_setSeg m]
    split
    · next h => exact h ▸ ⟨hs, hn⟩
    · exact ⟨rfl, rfl⟩
  exact ⟨fun j hj => ⟨(both j).1 ▸ hj, (both j).2⟩, fun j hj => ⟨(both j).1 ▸ hj, (both j).2.symm⟩⟩

theorem AllFaded.usedBefore {s t : State} (h : AllFaded s t) : UsedBefore s t := fun j hj => by
  refine ⟨fun hf => hj ((h j).free hf), (h j).snap fun hb => hj ?_⟩
  rw [hb]
  rfl

/-- The segment that was current is freed, or nothing is: whichever else is used stays so (R87, R97). -/
theorem usedBefore_makeCurrent {s : State} (m : MemoryLaw s) (i : Nat) :
    UsedBefore s (s.makeCurrent i) ∧ ((∀ j, (s.acq.seg j).current = true → j ∈ s.acq.seqList ∧ j < s.slots) →
      UsedBefore (s.makeCurrent i) s) := by
  unfold State.makeCurrent
  split
  · next j hj =>
    split
    · exact ⟨fun _ h => ⟨h, rfl⟩, fun _ _ h => ⟨h, rfl⟩⟩
    · have m1 := memory_setSeg m j { s.seg j with current := false }
      have m2 := memory_setSeg m1 i { State.seg (s.setSeg j { s.seg j with current := false }) i with current := true }
      have first := usedBefore_setSeg m (i := j) (g := { s.seg j with current := false }) rfl
      have second := usedBefore_setSeg m1 (i := i)
        (g := { State.seg (s.setSeg j { s.seg j with current := false }) i with current := true }) rfl
      refine ⟨(first.1.trans second.1).trans (allFaded_freeIfUnkept m2 j).usedBefore, fun h => ?_⟩
      obtain ⟨hl, hlt⟩ := h j (Acq.current_of_currentIdx m.1 hj)
      dsimp only
      rw [State.freeIfUnkept, if_neg fun hk => ?_]
      · exact second.2.trans first.2
      · have hkept := (kept_iff (State.setSeg (s.setSeg j { s.seg j with current := false }) i
          { State.seg (s.setSeg j { s.seg j with current := false }) i with current := true }) j).2
            (.inr ⟨hlt, .inr (.inr hl)⟩)
        rw [hk.2] at hkept
        cases hkept
  · have set := usedBefore_setSeg m (i := i) (g := { s.seg i with current := true }) rfl
    exact ⟨set.1, fun _ => set.2⟩

/-- The slots that are free once a segment has been completed: those that were, and no other where the segment that was
current is a member of the sequence (R87, R99). -/
theorem slotFree_completeSeg {s : State} (m : MemoryLaw s) {i : Nat} (hi : (s.acq.seg i).state = .filling) (j : Nat) :
    (SlotFree s j → SlotFree (s.completeSeg i) j)
      ∧ ((∀ k, (s.acq.seg k).current = true → k ∈ s.acq.seqList ∧ k < s.slots) →
        SlotFree (s.completeSeg i) j → SlotFree s j) := by
  have hseg := seg_completed m i
  have moved := StoreMoved.makeCurrent (s.completed i) i
  have same (k : Nat) : (((s.completed i).acq.seg k).state ≠ .free ↔ (s.acq.seg k).state ≠ .free)
      ∧ ((s.completed i).acq.seg k).snap = (s.acq.seg k).snap := by
    rw [hseg]
    split
    · next e => simp [e, hi, State.completedSeg]
    · exact ⟨Iff.rfl, rfl⟩
  have used : UsedBefore s (s.completed i) ∧ UsedBefore (s.completed i) s :=
    ⟨fun k hk => ⟨(same k).1.1 hk, (same k).2⟩, fun k hk => ⟨(same k).1.2 hk, (same k).2.symm⟩⟩
  have made := usedBefore_makeCurrent (memoryLaw_put (inner_completed s i) rfl rfl m) i
  refine ⟨(used.1.trans made.1).slotFree (moved.fieldVal 33) moved.vals, fun h => ?_⟩
  refine ((made.2 fun k hk => h k ?_).trans used.2).slotFree (moved.fieldVal 33).symm fun e => (moved.vals e).symm
  rw [hseg] at hk
  split at hk
  · next e => exact e ▸ hk
  · exact hk

end Sys2Proof.Machine
end

section
/-!
SUPPORT. A completion in each run mode (R97 to R99).
-/

namespace Sys2Proof.Machine

/-! ## What a completion leaves -/

/-- The mode is STOP, with the trigger unit's entry into STOP, a segment with a channel to draw is handed over, and the
notices are posted (R98, R99). -/
def RunEnds (s t : State) (i : Nat) (ns : List Notice) : Prop :=
  (t.acq.mode = .stop ∧ t.acq.state = .stopped ∧ t.trig.holdoff = 0 ∧ t.trig.forced = false ∧ t.trig.autoTimer = none)
    ∧ (s.acq.segChannels (s.acq.seg i) ≠ [] → Queued t i) ∧ Posted s t ns

/-- RUN goes on with the next arm (R97). -/
def RunGoesOn (s t : State) (i : Nat) : Prop :=
  t.acq.mode = .run ∧ ArmLeft s t ∧ (s.acq.segChannels (s.acq.seg i) ≠ [] → Queued t i) ∧ Posted s t [s.doneNotice i]
    ∧ (s.trig.holdoff = (s.fieldVal 49).toNat * 10 → t.trig.holdoff = (s.fieldVal 49).toNat * 10)

/-- SEQUENCE goes on with the next arm, and hands nothing over (R97, R99). -/
def SequenceGoesOn (s t : State) (i : Nat) : Prop :=
  t.acq.mode = .sequence ∧ ArmLeft s t ∧ ¬ Queued t i ∧ Posted s t [s.doneNotice i]

/-- The sequence ends with the completion of segment i: it has its members, or no slot above i is free then (R99). -/
def SequenceOver (s : State) (i : Nat) : Prop :=
  ((s.acq.seqCount + 1 : Nat) : Int) = s.fieldVal fidSegments
    ∨ ∀ j, i + 1 ≤ j → j < s.slots → ¬ SlotFree (s.completeSeg i) j

/-- The completed segment joins the sequence, which ends or goes on (R99). -/
structure SequenceStep (s t : State) (i : Nat) : Prop where
  count : t.acq.seqCount = s.acq.seqCount + 1
  member : i ∈ t.acq.seqList
  ends : SequenceOver s i →
    RunEnds s t i [s.doneNotice i, .sequenceDone (s.acq.seqCount + 1), .runState .stop]
  goesOn : ¬ SequenceOver s i → SequenceGoesOn s t i

/-- Segment i has been completed, and the run mode has taken its course (R97 to R99). -/
structure Completes (s t : State) (i : Nat) : Prop where
  counter : t.acq.counter = s.acq.counter + 1
  samples : t.acq.samples = s.acq.samples
  clear : TrackClear t.trig
  record : s.acq.mode ≠ .run ∨ s.acq.segChannels (s.acq.seg i) ≠ [] → RecordDone s t i
  run : s.acq.mode = .run → RunGoesOn s t i
  single : s.acq.mode = .single → RunEnds s t i [s.doneNotice i, .runState .stop]
  sequence : s.acq.mode = .sequence → SequenceStep s t i

/-- After the announcement the renderer and the trigger unit have moved, or slot choice has been made: nothing is counted,
nothing sampled. -/
theorem Announced.act {s t u : State} {i : Nat} (h : Announced s t i) (k : ActMoved t u) :
    u.acq.counter = s.acq.counter + 1 ∧ u.acq.samples = s.acq.samples ∧ u.acq.mode = s.acq.mode
      ∧ u.acq.seqCount = s.acq.seqCount ∧ Posted s u [s.doneNotice i] := by
  have hc := h.counters
  simp only [Prod.mk.injEq] at hc
  obtain ⟨hm, hn, hs, hq⟩ := hc
  obtain ⟨km, kn, ks, kq⟩ := k.counters
  exact ⟨kn.trans hn, ks.trans hs, km.trans hm, kq.trans hq, (k.port .a).trans h.posted.1, (k.port .b).trans h.posted.2⟩

theorem Announced.armLeft {s t u : State} {i : Nat} (h : Announced s t i) (hi : Inner s t) (k : ArmLeft t u) :
    ArmLeft s u := by
  rwa [ArmLeft, frontSettled_congr hi.straps hi.recs h.fe] at k

/-- The trigger unit as it enters STOP (R81). -/
theorem trackClear_cancel (x : Trig) : TrackClear x.cancel := rfl

/-- One more notice is posted. -/
theorem Posted.post {s t : State} {ns : List Notice} (h : Posted s t ns) (n : Notice) : Posted s (t.post n) (ns ++ [n]) := by
  obtain ⟨ha, hb⟩ := h
  simp only [Posted, State.post, List.foldl_append, List.foldl_cons, List.foldl_nil, ha, hb, and_self]

/-- The end of a run posts RUN_STATE (R98, R99). -/
theorem Posted.endRun {s t : State} {ns : List Notice} (h : Posted s t ns) : Posted s t.endRun (ns ++ [.runState .stop]) :=
  h.post _

/-! ## The run modes -/

theorem complete_run {s : State} (h : s.acq.mode = .run) (i : Nat) : s.complete i = (s.announce i).arm.finishAct := by
  rw [State.complete, h]

theorem complete_single {s : State} (h : s.acq.mode = .single) (i : Nat) :
    s.complete i = (s.announce i).endRun.finishAct := by rw [State.complete, h]

theorem complete_sequence {s : State} (h : s.acq.mode = .sequence) (i : Nat) :
    s.complete i = ((s.announce i).continueSequence i).finishAct := by rw [State.complete, h]

/-- The end of a run leaves the renderer to its law, so that its act ends with it. -/
theorem endRun_finishAct {s : State} (h : RenderQueueLaw s) : s.endRun.finishAct = s.endRun := by
  have stopped : s.endRun.acq.state ≠ .waitSegment := by
    change AcqState.stopped ≠ _
    simp
  rw [finishAct_of_ne stopped]
  exact resume_of_law (s := s.endRun) h

section
variable {s : State} {i : Nat} (m : MemoryLaw s) (c : CurrentLaw s.acq) (q : QueueLaws s)
  (hi : (s.acq.seg i).state = .filling) (hk : i < s.slots)
include m c q hi hk

theorem completes_single (hm : s.acq.mode = .single) : Completes s (s.complete i) i := by
  have told := announced_announce m (i := i)
  obtain ⟨law, queued⟩ := queued_announce m q hi c hk (by simp [hm])
  obtain ⟨done, -⟩ := recordDone_announce m hk hi
  obtain ⟨hc, hs, -, -, posted⟩ := told.act (.refl _)
  rw [complete_single hm, endRun_finishAct law]
  exact ⟨hc, hs, trackClear_cancel _, fun _ => done, by simp [hm], fun _ => ⟨⟨rfl, rfl, rfl, rfl, rfl⟩, queued,
    posted.endRun⟩, by simp [hm]⟩

variable (l : SnapshotLaw s)
include l

theorem completes_run (hm : s.acq.mode = .run) : Completes s (s.complete i) i := by
  have kept := StoreKept.announce (shown := True) (calm := True) fun _ => hi
  have told := announced_announce m (i := i)
  obtain ⟨law, queued⟩ := queued_announce m q hi c hk (by simp [hm])
  obtain ⟨done, -⟩ := recordDone_announce m hk hi
  have ma := kept.memory m
  have ca := kept.current m c
  obtain ⟨hc, hs, hmode, -, posted⟩ := told.act ((ActMoved.arm (s.announce i)).trans (.finishAct _))
  have trig := trigArmed_arm_finishAct (s.announce i)
  have rend := (arm_finishAct ma ca law).1 ▸ (arm_finishAct ma ca law).2
  rw [complete_run hm]
  refine ⟨hc, hs, trig.clear (told.trig ▸ rfl), fun hd => ?_, fun _ => ⟨hmode.trans hm,
    told.armLeft kept.inner (armLeft_arm_finishAct _), fun hd => ?_, posted, fun hh => ?_⟩, by simp [hm], by simp [hm]⟩
  · have waits := queued (hd.resolve_left (by simp [hm]))
    obtain ⟨-, -, used, -⟩ := id law
    exact done.past (pastSeg_arm_finishAct ma ca (kept.snapshot trivial m c l) law
      ⟨(used i waits).1, .inr (.inl (used i waits).2)⟩)
  · rw [Queued, rend]
    exact queued hd
  · have loaded : (s.announce i).trig.holdoff = (s.fieldVal 49).toNat * 10 := by
      rw [told.trig]
      exact hh
    rcases trig.holdoff with e | e
    · exact e.trans loaded
    · rwa [fieldVal_congr kept.inner.recs] at e

end

/-! ## SEQUENCE (R99) -/

/-- Segment i has joined the sequence. -/
def State.joined (s : State) (i : Nat) : State :=
  { s with acq := { s.acq with seqList := s.acq.seqList ++ [i], seqCount := s.acq.seqCount + 1 } }

/-- A sequence ends with the hand-off and its notices (R99). -/
def State.endSequence (s : State) (i : Nat) : State :=
  ((s.handOff i).resume.post (.sequenceDone s.acq.seqCount)).endRun

/-- The member that a sequence has just taken ends it, or does not (R99). -/
theorem continueSequence_announce {s : State} {i : Nat} (m : MemoryLaw s) (hi : (s.acq.seg i).state = .filling)
    (hm : s.acq.mode = .sequence) :
    (SequenceOver s i → (s.announce i).continueSequence i = ((s.announce i).joined i).endSequence i)
      ∧ (¬ SequenceOver s i → (s.announce i).continueSequence i = ((s.announce i).joined i).arm) := by
  have kept := StoreKept.announce (shown := True) (calm := True) fun _ => hi
  have ma := kept.memory m
  have hc := (announced_announce m (i := i)).counters
  simp only [Prod.mk.injEq] at hc
  obtain ⟨-, -, -, hq⟩ := hc
  have free (j : Nat) : SlotFree ((s.announce i).joined i) j ↔ SlotFree (s.completeSeg i) j := by
    have h : SlotFree ((s.announce i).joined i) j ↔ SlotFree ((s.completeSeg i).handCompleted i) j := Iff.rfl
    rw [h, handCompleted_of_sequence hm]
  have ends : (((s.announce i).joined i).acq.seqCount : Int) = ((s.announce i).joined i).fieldVal fidSegments
      ∨ ((s.announce i).joined i).availableFrom (i + 1) ((s.announce i).joined i).slots = none ↔ SequenceOver s i := by
    have hcount : ((s.announce i).joined i).acq.seqCount = s.acq.seqCount + 1 := congrArg (· + 1) hq
    have hslots : ((s.announce i).joined i).slots = s.slots :=
      show (s.announce i).slots = s.slots from slots_of_inner kept.inner
    have hval : ((s.announce i).joined i).fieldVal = s.fieldVal := fieldVal_congr kept.inner.recs
    rw [availableFrom_none (s := (s.announce i).joined i) ma.1, hcount, hslots, hval]
    simp only [free]
    rfl
  exact ⟨fun h => if_pos (ends.2 h), fun h => if_neg (mt ends.1 h)⟩

/-- State x stands once segment i has been completed in SEQUENCE and has joined the sequence, before this ends or goes on. -/
structure Joined (s x : State) (i : Nat) : Prop where
  kept : StoreKept True True s x
  counters : (x.acq.mode, x.acq.counter, x.acq.samples, x.acq.seqCount)
    = (s.acq.mode, s.acq.counter + 1, s.acq.samples, s.acq.seqCount + 1)
  fe : x.fe = s.fe
  clear : TrackClear x.trig
  posted : Posted s x [s.doneNotice i]
  done : RecordDone s x i
  still : KeptStill x i
  complete : (x.acq.seg i).state = .complete
  waits : (x.acq.seg i).pending = false
  member : i ∈ x.acq.seqList

theorem joined_announce {s : State} {i : Nat} (m : MemoryLaw s) (q : QueueLaws s) (hi : (s.acq.seg i).state = .filling)
    (hk : i < s.slots) (hm : s.acq.mode = .sequence) : Joined s ((s.announce i).joined i) i := by
  have told := announced_announce m (i := i)
  obtain ⟨hc, hs, hmode, hcount, posted⟩ := told.act (.refl _)
  obtain ⟨done, still⟩ := recordDone_announce m hk hi
  obtain ⟨hseg, hp⟩ := seg_announce_sequence m q hi hm
  refine ⟨(StoreKept.announce fun _ => hi).trans (.join _ i _), ?_, told.fe, ?_, posted, done,
    still.of_eq rfl ⟨_, rfl⟩ fun h => List.mem_append_left _ h, congrArg Seg.state hseg, hp,
    List.mem_append_right _ (List.mem_singleton.2 rfl)⟩
  · exact Prod.ext hmode (Prod.ext hc (Prod.ext hs (congrArg (· + 1) hcount)))
  · change TrackClear (s.announce i).trig
    rw [told.trig]
    rfl

section
variable {s x : State} {i : Nat} (j : Joined s x i) (m : MemoryLaw s) (c : CurrentLaw s.acq) (q : QueueLaws s)
  (hm : s.acq.mode = .sequence)
include j m c q hm

/-- The sequence ends: the segment is handed to the renderer, which has gone on (R99). -/
theorem Joined.ended : (x.endSequence i).finishAct = x.endSequence i
    ∧ (SequenceOver s i → Completes s (x.endSequence i) i) := by
  have hc := j.counters
  simp only [Prod.mk.injEq] at hc
  obtain ⟨-, hn, hs, hcount⟩ := hc
  have mx := j.kept.memory m
  have qx := j.kept.queue trivial m c q
  have qh : QueueLaws (x.handOff i) := qx.handOff mx j.complete fun r hr e => by
    have := (qx.used i (.inr ⟨r, hr, e⟩)).2
    rw [j.waits] at this
    cases this
  have mh := memory_handOff mx i
  have off := staysStill_handOff mx j.still i
  have stays := off.trans (staysStill_resume mh off.1)
  have moved := (StoreMoved.handOff x i).trans (.resume _)
  have drawn (hd : s.acq.segChannels (s.acq.seg i) ≠ []) : Queued (x.handOff i).resume i :=
    queued_resume mh qh (mem_handOff x i) (by rwa [(j.done.still off (StoreMoved.handOff x i).vals).segChannels])
  have law := qh.resume mh
  obtain ⟨y, hy⟩ : ∃ y, y = (x.handOff i).resume := ⟨_, rfl⟩
  have hend : x.endSequence i = (y.post (.sequenceDone x.acq.seqCount)).endRun := by rw [hy]; rfl
  rw [← hy] at stays moved drawn law
  have acq := moved.acq
  have port (p : Port) : y.port p = x.port p := moved.port p
  rw [hend]
  refine ⟨endRun_finishAct (s := y.post _) law, fun ho => ⟨?_, ?_, trackClear_cancel _, fun _ => ?_, by simp [hm],
    by simp [hm], fun _ => ⟨?_, stays.2.2 j.member, fun _ => ⟨⟨rfl, rfl, rfl, rfl, rfl⟩, drawn, ?_⟩,
      fun h => absurd ho h⟩⟩⟩
  · exact (congrArg Acq.counter acq).trans hn
  · exact (congrArg Acq.samples acq).trans hs
  · exact j.done.still stays moved.vals
  · exact (congrArg Acq.seqCount acq).trans hcount
  · have posted : Posted s y [s.doneNotice i] := ⟨(port .a).trans j.posted.1, (port .b).trans j.posted.2⟩
    rw [hcount]
    exact (posted.post _).endRun

/-- The sequence goes on with the next arm (R99). -/
theorem Joined.goesOn (l : SnapshotLaw s) (ho : ¬ SequenceOver s i) : Completes s x.arm.finishAct i := by
  have hc := j.counters
  simp only [Prod.mk.injEq] at hc
  obtain ⟨hmode, hn, hs, hcount⟩ := hc
  have armed := j.kept.trans ((StoreKept.arm x).trans (.finishAct _))
  have act := (ActMoved.arm x).trans (.finishAct _)
  obtain ⟨kmode, kn, ks, kcount⟩ := act.counters
  have past := pastSeg_arm_finishAct_sequence (j.kept.memory m) (j.kept.current m c) (j.kept.snapshot trivial m c l)
    (hmode.trans hm) j.complete j.waits j.still
  have left : ArmLeft s x.arm.finishAct := by
    have left := armLeft_arm_finishAct x
    rwa [ArmLeft, frontSettled_congr j.kept.inner.straps j.kept.inner.recs j.fe] at left
  refine ⟨kn.trans hn, ks.trans hs, (trigArmed_arm_finishAct x).clear j.clear, fun _ => j.done.past past, by simp [hm],
    by simp [hm], fun _ => ⟨kcount.trans hcount, past.2.2 j.member, fun h => absurd h ho, fun _ =>
      ⟨(kmode.trans hmode).trans hm, left, fun hq => ?_, (act.port .a).trans j.posted.1,
        (act.port .b).trans j.posted.2⟩⟩⟩
  have flag := ((armed.queue trivial m c q).used i hq).2
  rw [past.1, j.waits] at flag
  cases flag

end

theorem completes_sequence {s : State} {i : Nat} (m : MemoryLaw s) (c : CurrentLaw s.acq) (l : SnapshotLaw s)
    (q : QueueLaws s) (hi : (s.acq.seg i).state = .filling) (hk : i < s.slots) (hm : s.acq.mode = .sequence) :
    Completes s (s.complete i) i := by
  have j := joined_announce m q hi hk hm
  obtain ⟨ends, goesOn⟩ := continueSequence_announce m hi hm
  rw [complete_sequence hm]
  by_cases ho : SequenceOver s i
  · rw [ends ho, (j.ended m c q hm).1]
    exact (j.ended m c q hm).2 ho
  · rw [goesOn ho]
    exact j.goesOn m c q hm l ho

end Sys2Proof.Machine
end

section
/-!
SUPPORT. The last sample of a segment (R96), and the statement about the completion that it brings.
-/

namespace Sys2Proof.Machine

/-! ## The last sample is stored (R96) -/

/-- State c stands once the last sample of segment i, at position k after the pretrigger part, has been stored where room is
left for it, before the segment completes. -/
structure LastStored (s c : State) (i k : Nat) (codes : List Byte) : Prop where
  kept : StoreKept True True s c
  counters : (c.acq.mode, c.acq.counter, c.acq.seqCount, c.acq.seqList)
    = (s.acq.mode, s.acq.counter, s.acq.seqCount, s.acq.seqList)
  beside : (c.fe, c.rend, c.portA, c.portB) = (s.fe, s.rend, s.portA, s.portB)
  vals : ValsSame s.acq c.acq
  seg : ∀ j, c.acq.seg j = if j = i
    then { s.acq.seg i with time := if k = 0 then s.baseTick else (s.acq.seg i).time } else s.acq.seg j
  written : (s.acq.seg i).p < s.acq.segLength (s.acq.seg i) →
    SampleWritten s.acq c.acq.samples i ((s.acq.seg i).p + k) codes
  unwritten : s.acq.segLength (s.acq.seg i) ≤ (s.acq.seg i).p → c.acq.samples = s.acq.samples

theorem storeMoved_timed (s : State) (i : Nat) : StoreMoved s (s.timed i) := .ite (.setSeg s i _) (.refl s)

theorem seqList_timed (s : State) (i : Nat) : (s.timed i).acq.seqList = s.acq.seqList := by
  unfold State.timed
  split <;> rfl

/-- A sample of POSTTRIG that leaves no room for another completes its segment (R96). -/
theorem postSample_last {s : State} {i : Nat} (m : MemoryLaw s) (hi : (s.acq.seg i).state = .filling) (codes : List Byte)
    (hl : s.acq.segLength (s.acq.seg i) ≤ (s.acq.seg i).p + s.acq.postCount + 1) :
    ∃ c, s.postSample i codes = c.complete i ∧ c.trig = s.trig ∧ LastStored s c i s.acq.postCount codes := by
  have moved := storeMoved_timed s i
  have acq := moved.acq
  have hseg := seg_timed m i
  have hsnap : ((s.timed i).acq.seg i).snap = (s.acq.seg i).snap := by rw [hseg, if_pos rfl]
  have counters : ((s.timed i).acq.mode, (s.timed i).acq.counter, (s.timed i).acq.seqCount, (s.timed i).acq.seqList)
      = (s.acq.mode, s.acq.counter, s.acq.seqCount, s.acq.seqList) := by
    rw [seqList_timed, acq]
  have beside : ((s.timed i).fe, (s.timed i).rend, (s.timed i).portA, (s.timed i).portB)
      = (s.fe, s.rend, s.portA, s.portB) := by
    rw [rend_timed, moved.act.fe, show (s.timed i).portA = s.portA from moved.port .a,
      show (s.timed i).portB = s.portB from moved.port .b]
  have samples : (s.timed i).acq.samples = s.acq.samples := by rw [acq]
  rw [postSample_eq]
  by_cases hroom : s.acq.segLength (s.acq.seg i) ≤ (s.acq.seg i).p
  · rw [if_pos hroom]
    exact ⟨_, rfl, moved.trig, .timed fun _ => hi, counters, beside, moved.vals, hseg, fun h => by omega, fun _ => samples⟩
  · rw [if_neg hroom, if_pos (by omega)]
    refine ⟨_, rfl, moved.trig, .postStored (fun _ => hi) codes, counters, beside, moved.vals, hseg, fun _ => ?_,
      fun h => absurd h hroom⟩
    have wf : Cells.wf (0 : Byte) (s.timed i).acq.samples = true := samples ▸ m.2.1
    have written := sampleWritten_writeSample wf i ((s.acq.seg i).p + s.acq.postCount) codes
    rwa [SampleWritten, moved.segChannels hsnap, moved.segLength hsnap, samples] at written

/-- The kept sample that completes segment i: a trigger sample, or one of POSTTRIG (R96). -/
theorem keptSample_last {s : State} {i : Nat} (m : MemoryLaw s) (hf : s.acq.fillingIdx = some i) (codes : List Byte)
    (ext : Bool) (ht : (s.acq.state = .ready ∧ s.triggers i codes ext = true) ∨ s.acq.state = .posttrig) :
    let k := if s.acq.state = .ready then 0 else s.acq.postCount
    s.acq.segLength (s.acq.seg i) ≤ (s.acq.seg i).p + k + 1 →
    ∃ c, s.keptSample codes ext = c.complete i ∧ LastStored s c i k codes
      ∧ (s.acq.state = .ready → c.trig.holdoff = (s.fieldVal 49).toNat * 10) := by
  intro k hl
  have hi := Acq.filling_of_fillingIdx m.1 hf
  rw [keptSample_some hf]
  rcases ht with ⟨hs, ht⟩ | hs
  · have hk : k = 0 := if_pos hs
    rw [hk] at hl
    rw [takeSample_ready hs, if_pos ht, hk]
    obtain ⟨c, hc, htrig, h⟩ := postSample_last (s := (s.tracked i codes ext).takeTrigger false) (i := i) m hi codes hl
    refine ⟨c, hc, ⟨((StoreKept.tracked s i codes ext).trans (.takeTrigger _ false)).trans h.kept, h.counters, h.beside,
      h.vals, h.seg, h.written, h.unwritten⟩, fun _ => ?_⟩
    rw [htrig]
    rfl
  · have hk : k = s.acq.postCount := if_neg (by simp [hs])
    rw [hk] at hl
    rw [takeSample_posttrig hs, hk]
    obtain ⟨c, hc, -, h⟩ := postSample_last (s := s.tracked i codes ext) (i := i) m hi codes hl
    exact ⟨c, hc, ⟨(StoreKept.tracked s i codes ext).trans h.kept, h.counters, h.beside,
      h.vals, h.seg, h.written, h.unwritten⟩, fun h => by simp [hs] at h⟩

/-! ## What the completion finds -/

section
variable {s c : State} {i k : Nat} {codes : List Byte} (h : LastStored s c i k codes)
include h

theorem LastStored.record : c.acq.seg i
    = { s.acq.seg i with time := if k = 0 then s.baseTick else (s.acq.seg i).time } := by rw [h.seg, if_pos rfl]

theorem LastStored.segChannels : c.acq.segChannels (c.acq.seg i) = s.acq.segChannels (s.acq.seg i) :=
  h.vals.segChannels (by rw [h.record])

theorem LastStored.segLength : c.acq.segLength (c.acq.seg i) = s.acq.segLength (s.acq.seg i) :=
  congrArg lengthOf (h.vals.snapVal (by rw [h.record]) _)

theorem LastStored.posted {t : State} {ns : List Notice} (k : Posted c t ns) : Posted s t ns := by
  have hb := h.beside
  simp only [Prod.mk.injEq] at hb
  obtain ⟨-, -, ha, hb⟩ := hb
  rwa [Posted, ha, hb] at k

theorem LastStored.armLeft {t : State} (k : ArmLeft c t) : ArmLeft s t := by
  rwa [ArmLeft, frontSettled_congr h.kept.inner.straps h.kept.inner.recs (congrArg Prod.fst h.beside)] at k

/-- The same slots are free. -/
theorem LastStored.slotFree (j : Nat) : SlotFree c j ↔ SlotFree s j := by
  have same (j : Nat) : (c.acq.seg j).state = (s.acq.seg j).state ∧ (c.acq.seg j).snap = (s.acq.seg j).snap := by
    rw [h.seg]
    split
    · next e => exact e ▸ ⟨rfl, rfl⟩
    · exact ⟨rfl, rfl⟩
  have val := congrFun (fieldVal_congr h.kept.inner.recs) 33
  constructor
  · exact UsedBefore.slotFree (fun j hj => ⟨(same j).1 ▸ hj, (same j).2.symm⟩) val.symm fun e => (h.vals e).symm
  · exact UsedBefore.slotFree (fun j hj => ⟨(same j).1 ▸ hj, (same j).2⟩) val h.vals

theorem LastStored.current (j : Nat) : (c.acq.seg j).current = (s.acq.seg j).current := by
  rw [h.seg]
  split
  · next e => rw [e]
  · rfl

end

/-- A sample of the completed segment reads as it did before. -/
theorem sample_of_recordDone {s t : State} {i : Nat} (h : RecordDone s t i) (hs : t.acq.samples = s.acq.samples)
    (n q : Nat) : t.acq.sample i n q = s.acq.sample i n q := by
  obtain ⟨b, hb⟩ := h.1
  rw [Acq.sample, Acq.sample, hs, h.segLength, hb]
  rfl

/-- The OVERRANGE flags are those of the channels that hold a code 0 or 255 (R96). -/
theorem ovr_of_recordDone {s t : State} {i : Nat} (h : RecordDone s t i) (hs : t.acq.samples = s.acq.samples)
    (n : Fin 4) : (t.acq.seg i).ovr.getLsbD n = true ↔ (n : Nat) + 1 ∈ s.acq.segChannels (s.acq.seg i)
      ∧ ∃ q < s.acq.segLength (s.acq.seg i),
        t.acq.sample i ((n : Nat) + 1) q = 0 ∨ t.acq.sample i ((n : Nat) + 1) q = 255 := by
  obtain ⟨b, hb⟩ := h.1
  have hovr : (t.acq.seg i).ovr = chanBits (s.acq.overrange i) := by rw [hb]; rfl
  simp only [hovr, getLsbD_chanBits, List.contains_iff_mem, Acq.overrange, List.mem_filter, List.any_eq_true,
    List.mem_range, Bool.or_eq_true, decide_eq_true_eq, sample_of_recordDone h hs]

/-- Every completion takes the course of its run mode (R97 to R99). -/
theorem completes_complete {s : State} {i : Nat} (m : MemoryLaw s) (c : CurrentLaw s.acq) (l : SnapshotLaw s)
    (q : QueueLaws s) (hi : (s.acq.seg i).state = .filling) (hk : i < s.slots) (hm : s.acq.mode ≠ .stop) :
    Completes s (s.complete i) i := by
  cases h : s.acq.mode with
  | stop => exact absurd h hm
  | run => exact completes_run m c q hi hk l h
  | single => exact completes_single m c q hi hk h
  | sequence => exact completes_sequence m c l q hi hk h

/-! ## The statement -/

/-- Settles O53: the last sample is stored, and the completion that follows takes the course of its run mode. -/
theorem segmentCompletes : Obligations.SegmentCompletes := by
  intro s c1 c2 c3 c4 ext i m law l rq hf hslot codes g len v chans k ht hl handed stopped done ended
  obtain ⟨⟨hstop, hfills, -⟩, cur⟩ := (acqLaw_iff s).1 law
  have hi := Acq.filling_of_fillingIdx m.1 hf
  have htrig : (s.acq.state = .ready ∧ s.triggers i codes ext = true) ∨ s.acq.state = .posttrig := by
    refine ht.imp_left fun ⟨hs, hc, h0⟩ => ⟨hs, ?_⟩
    simp only [State.triggers, Bool.and_eq_true, decide_eq_true_eq]
    exact ⟨hc, h0⟩
  have hmode : s.acq.mode ≠ .stop := fun e => by
    rcases ht with ⟨hs, -⟩ | hs <;> rw [hstop.1 e] at hs <;> cases hs
  obtain ⟨c, hc, h, holdoff⟩ := keptSample_last m hf codes ext htrig hl
  have counters := h.counters
  simp only [Prod.mk.injEq] at counters
  obtain ⟨hm, hn, hcount, hlist⟩ := counters
  have mc := h.kept.memory m
  have curc := h.kept.current m cur
  have filling : (c.acq.seg i).state = .filling := by rw [h.record]; exact hi
  have slots := slots_of_inner h.kept.inner
  have val := fieldVal_congr h.kept.inner.recs
  have completes := completes_complete mc curc (h.kept.snapshot trivial m cur l)
    (h.kept.queue trivial m cur ((renderQueueLaw_iff s).1 rq).1) filling (slots ▸ hslot) (hm ▸ hmode)
  have notice : c.doneNotice i = done := by rw [State.doneNotice, hn, h.record]
  have inner : Inner s (c.complete i) := hc ▸ inner_keptSample s codes ext
  obtain ⟨t, htc⟩ : ∃ t, t = c.complete i := ⟨_, rfl⟩
  rw [← htc] at completes inner
  have hchans : c.acq.segChannels (c.acq.seg i) = chans := h.segChannels
  have hlen : c.acq.segLength (c.acq.seg i) = len := h.segLength
  have runEnds {ns : List Notice} (e : RunEnds c t i ns) : stopped t ∧ (chans ≠ [] → handed t) ∧ Posted s t ns := by
    obtain ⟨stops, queued, posted⟩ := e
    exact ⟨stops, hchans ▸ queued, h.posted posted⟩
  have clear : trackingCleared t.trig = t.trig := completes.clear
  refine ⟨t, by rw [htc, ← hc]; rfl, inner, completes.counter.trans (congrArg (· + 1) hn), fun hp a => ?_, fun hp => ?_,
    by rw [← clear]; rfl, by rw [← clear]; rfl, by rw [← clear]; rfl, by rw [← clear]; rfl, by rw [← clear]; rfl,
    by rw [← clear]; rfl, fun hd => ?_, fun hr => ?_, fun hs => ?_, fun hq => ?_⟩
  · rw [completes.samples]
    exact h.written hp a
  · exact completes.samples.trans (h.unwritten hp)
  · have record := completes.record (by rw [hm, hchans]; exact hd)
    have ovr := ovr_of_recordDone record completes.samples
    obtain ⟨⟨b, hb⟩, -⟩ := record
    rw [hchans, hlen] at ovr
    have hb' := hb
    rw [State.completedSeg, h.record, hn] at hb'
    refine ⟨?_, ?_, ?_, ?_, ?_, ?_, ?_, ?_, ovr⟩ <;> rw [hb']
  · obtain ⟨mode, left, queued, posted, loaded⟩ := completes.run (hm.trans hr)
    rw [val] at loaded
    exact ⟨mode, h.armLeft left, hchans ▸ queued, notice ▸ h.posted posted, fun hs => loaded (holdoff hs)⟩
  · obtain ⟨stops, queued, posted⟩ := runEnds (completes.single (hm.trans hs))
    exact ⟨stops, queued, notice ▸ posted⟩
  · have step := completes.sequence (hm.trans hq)
    have free (j : Nat) := slotFree_completeSeg mc filling j
    have ends (o : SequenceOver c i) : ended t := by
      have e := step.ends o
      rw [notice, hcount] at e
      exact runEnds e
    intro full
    have isOver : SequenceOver c i ↔ full ∨ ∀ j, i + 1 ≤ j → j < s.slots → ¬ SlotFree (c.completeSeg i) j := by
      rw [SequenceOver, hcount, val, slots]
      rfl
    refine ⟨step.count.trans (congrArg (· + 1) hcount), step.member, fun ho => ends (isOver.2 ?_), fun hno hmem =>
      ends (isOver.2 (.inr fun j hj hjk k => hno j hj hjk ((h.slotFree j).1 ((free j).2 (fun r hr => ?_) k)))),
      fun hnot hex => ?_⟩
    · exact ho.imp_right fun e j hj hjk => by omega
    · rw [hlist, slots]
      exact hmem r (h.current r ▸ hr)
    · obtain ⟨mode, left, queued, posted⟩ := step.goesOn (mt isOver.1 fun o => by
        obtain ⟨j, hj, hjk, k⟩ := hex
        exact o.elim hnot fun o => o j hj hjk ((free j).1 ((h.slotFree j).2 k)))
      exact ⟨mode, h.armLeft left, queued, notice ▸ h.posted posted⟩

end Sys2Proof.Machine
end
